-- ==== Sys2Proof/Word.lean ====
section
/-! DEFINITION. The word types of the block (00_scope.md R7, R8): every value is an unsigned bit vector of a stated
width, bit 0 the least significant. -/
namespace Sys2Proof

/-- SelectionCode, the 4-bit value of port `sel` (30_encoding.md R81). -/
abbrev Code := BitVec 4

/-- SecondaryInput, the 4-bit value of port `sec` (30_encoding.md R82). -/
abbrev Sec := BitVec 4

/-- An input sample written as one word `W = {sel, sec}` (30_encoding.md R80). -/
abbrev Sample := BitVec 8

/-- OutputValue, the 6 bits on `led` (10_state.md R21). -/
abbrev Led := BitVec 6

/-- A number of milliseconds on the delay port (20_memory.md R53, R59; 92_eei_decisions.md D22). -/
abbrev Millis := BitVec 13

end Sys2Proof
end

