-- ==== Sys2Proof/Machine/Operands.lean ====
section
/-! DEFINITION. The views of the operand `sec` (30_encoding.md R82) and of the sample word `W` (R80). All views are
unsigned and unscaled. -/
namespace Sys2Proof.Machine

/-- `W[7:4]`, the selection code (30_encoding.md R80). -/
def selOf (w : Sample) : Code := w.extractLsb' 4 4

/-- `W[3:0]`, the secondary input (30_encoding.md R80). -/
def secOf (w : Sample) : Sec := w.extractLsb' 0 4

/-- `W = {sel, sec}` (30_encoding.md R80). -/
def sampleOf (sel : Code) (sec : Sec) : Sample := sel ++ sec

/-- `high2 = sec[3:2]` (30_encoding.md R82). -/
def high2 (sec : Sec) : BitVec 2 := sec.extractLsb' 2 2

/-- `low2 = sec[1:0]` (30_encoding.md R82). -/
def low2 (sec : Sec) : BitVec 2 := sec.extractLsb' 0 2

/-- `whole = sec[3:0]` (30_encoding.md R82). -/
def whole (sec : Sec) : BitVec 4 := sec

/-- `S = sec[0]` (30_encoding.md R82). -/
def setInput (sec : Sec) : BitVec 1 := sec.extractLsb' 0 1

/-- `R = sec[1]`, the level as it is (30_encoding.md R82, 44_latch.md R160). -/
def resetInput (sec : Sec) : BitVec 1 := sec.extractLsb' 1 1

/-- `{a, b}`: the `sec` whose pairs are `a` and `b` (30_encoding.md R89). -/
def secOfPair (a b : BitVec 2) : Sec := a ++ b

/-- `{00, R, S}`: the `sec` of latch inputs (30_encoding.md R89). -/
def secOfLatch (r s : BitVec 1) : Sec := (0#2 ++ r) ++ s

end Sys2Proof.Machine
end

