-- ==== Sys2Proof/Syntax.lean ====
section
/-! DEFINITION. The sixteen experiments (30_encoding.md R84) and the trace lines that write them (R89, R90). -/
namespace Sys2Proof

/-- One experiment with the operands its view of `sec` gives it (30_encoding.md R82 to R84). Bits the experiment
ignores are no operand (R83). -/
inductive Instr where
  /-- Code 0000 (46_noop.md R180). -/
  | nop0
  /-- Code 0001 (46_noop.md R181). -/
  | nop1
  /-- Code 0010 (46_noop.md R182). -/
  | nop2
  /-- Code 0011 (41_clock_blink.md R121). -/
  | blink
  /-- Code 0100 (41_clock_blink.md R120). -/
  | stepclk
  /-- Code 0101 (46_noop.md R183). -/
  | nop5
  /-- Code 0110 (42_counters.md R130). -/
  | upcnt
  /-- Code 0111 (42_counters.md R131). -/
  | dncnt
  /-- Code 1000 (42_counters.md R132). -/
  | gray
  /-- Code 1001 (42_counters.md R133). -/
  | graybin
  /-- Code 1010, `a = high2`, `b = low2` (43_gates.md R150). -/
  | and (a b : BitVec 2)
  /-- Code 1011, `a = high2`, `b = low2` (43_gates.md R151). -/
  | or (a b : BitVec 2)
  /-- Code 1100, `v = whole` (43_gates.md R152). -/
  | not (v : BitVec 4)
  /-- Code 1101, `a = high2`, `b = low2` (43_gates.md R153). -/
  | xor (a b : BitVec 2)
  /-- Code 1110, `r = sec[1]`, `s = sec[0]` (44_latch.md R160). -/
  | srlatch (r s : BitVec 1)
  /-- Code 1111, `i = whole`, the index into DELAY_TAB (45_running_light.md R170). -/
  | runlight (i : BitVec 4)
deriving DecidableEq, Repr

/-- A name a trace line may start with: the sixteen mnemonics of 30_encoding.md R84 and the alias NOP of R90. -/
inductive Mnemonic where
  | nop0 | nop1 | nop2 | blink | stepclk | nop5 | upcnt | dncnt
  | gray | graybin | and | or | not | xor | srlatch | runlight
  /-- `NOP`, "any of NOP0, NOP1, NOP2, NOP5"; it "has no encoding of its own" (30_encoding.md R90). -/
  | nop
deriving DecidableEq, Repr

/-- The operand part of a trace line (30_encoding.md R89). -/
inductive TraceOperand where
  /-- `sec=` left out. -/
  | absent
  /-- `sec=<4 binary digits>`. -/
  | sec (v : Sec)
  /-- `a=<2 digits> b=<2 digits>`, the gates' form. -/
  | pair (a b : BitVec 2)
  /-- `S=<bit> R=<bit>`, the latch's form. -/
  | latch (s r : BitVec 1)
deriving DecidableEq, Repr

/-- One line of a stimulus trace: one sample of one iteration (30_encoding.md R89). -/
structure TraceLine where
  name : Mnemonic
  operand : TraceOperand
deriving DecidableEq, Repr

end Sys2Proof
end

