-- ==== Sys2Proof/WellFormed.lean ====
section
/-! DEFINITION. Well-formedness. An `Instr` needs no check: its operand types hold exactly the values its encoding
admits, and no code is illegal or reserved (30_encoding.md R85). What can be ill-formed is a trace line (R89, R90). -/
namespace Sys2Proof

/-- Why a trace line is refused (30_encoding.md R89, R90). -/
inductive IllFormed where
  /-- The alias NOP: "a trace must name the exact code" (R90). Safe: nothing is assembled. -/
  | aliasNop
  /-- `sec=` left out where it "must be given" (R89). Safe: nothing is assembled. -/
  | operandMissing
  /-- `a= b=` on a line that is no AND, OR or XOR (R89). Safe: nothing is assembled. -/
  | pairNotGate
  /-- `S= R=` on a line that is no SRLATCH (R89). Safe: nothing is assembled. -/
  | latchNotSrlatch
deriving DecidableEq, Repr

/-- The experiments that combine `high2` and `low2` (30_encoding.md R82). -/
def Mnemonic.takesPair : Mnemonic → Bool
  | .and | .or | .xor => true
  | .nop0 | .nop1 | .nop2 | .blink | .stepclk | .nop5 | .upcnt | .dncnt | .gray | .graybin | .not
  | .srlatch | .runlight | .nop => false

/-- The experiments whose line must give `sec`: "AND, OR, NOT, XOR, SRLATCH and RUNLIGHT" (30_encoding.md R89). -/
def Mnemonic.needsSec : Mnemonic → Bool
  | .and | .or | .not | .xor | .srlatch | .runlight => true
  | .nop0 | .nop1 | .nop2 | .blink | .stepclk | .nop5 | .upcnt | .dncnt | .gray | .graybin | .nop => false

/-- What is wrong with a trace line, if anything (30_encoding.md R89, R90). -/
def TraceLine.problem (l : TraceLine) : Option IllFormed :=
  if l.name = .nop then some .aliasNop
  else match l.operand with
    | .absent => if l.name.needsSec then some .operandMissing else none
    | .sec _ => none
    | .pair _ _ => if l.name.takesPair then none else some .pairNotGate
    | .latch _ _ => if l.name = .srlatch then none else some .latchNotSrlatch

/-- A trace line with nothing wrong. -/
def TraceLine.wellFormed (l : TraceLine) : Bool := l.problem.isNone

end Sys2Proof
end

