-- ==== Sys2Proof/Decode.lean ====
section
/-! DEFINITION. From a sample word to its experiment and back (30_encoding.md R80 to R86), and the assembling of trace
lines (R89). -/
namespace Sys2Proof

open Sys2Proof.Machine

/-- Why a list of bytes holds no sample. Every byte is a sample (30_encoding.md R85), so there is one reason. -/
inductive Reject where
  /-- No byte is there to read. Safe: nothing runs. -/
  | noSample
deriving DecidableEq, Repr

/-- The experiment of a sample: the code map of 30_encoding.md R84, on the four bits of `sel`, most significant first.
Total: all sixteen codes are assigned (R85). -/
def decode (w : Sample) : Instr :=
  let sec := secOf w
  match w.getLsbD 7, w.getLsbD 6, w.getLsbD 5, w.getLsbD 4 with
  | false, false, false, false => .nop0
  | false, false, false, true => .nop1
  | false, false, true, false => .nop2
  | false, false, true, true => .blink
  | false, true, false, false => .stepclk
  | false, true, false, true => .nop5
  | false, true, true, false => .upcnt
  | false, true, true, true => .dncnt
  | true, false, false, false => .gray
  | true, false, false, true => .graybin
  | true, false, true, false => .and (high2 sec) (low2 sec)
  | true, false, true, true => .or (high2 sec) (low2 sec)
  | true, true, false, false => .not (whole sec)
  | true, true, false, true => .xor (high2 sec) (low2 sec)
  | true, true, true, false => .srlatch (resetInput sec) (setInput sec)
  | true, true, true, true => .runlight (whole sec)

/-- The decoder over bytes: the first byte is the sample, the rest follows (30_encoding.md R80, R88). -/
def decodeBytes : List (BitVec 8) → Except Reject (Instr × List (BitVec 8))
  | [] => .error .noSample
  | w :: rest => .ok (decode w, rest)

/-- The selection code of an experiment (30_encoding.md R84). -/
def Instr.code : Instr → Code
  | .nop0 => 0b0000#4
  | .nop1 => 0b0001#4
  | .nop2 => 0b0010#4
  | .blink => 0b0011#4
  | .stepclk => 0b0100#4
  | .nop5 => 0b0101#4
  | .upcnt => 0b0110#4
  | .dncnt => 0b0111#4
  | .gray => 0b1000#4
  | .graybin => 0b1001#4
  | .and _ _ => 0b1010#4
  | .or _ _ => 0b1011#4
  | .not _ => 0b1100#4
  | .xor _ _ => 0b1101#4
  | .srlatch _ _ => 0b1110#4
  | .runlight _ => 0b1111#4

/-- The secondary input an experiment is written with; an ignored bit is 0 (30_encoding.md R84, R89). -/
def Instr.sec : Instr → Sec
  | .nop0 | .nop1 | .nop2 | .blink | .stepclk | .nop5 | .upcnt | .dncnt | .gray | .graybin => 0#4
  | .and a b => secOfPair a b
  | .or a b => secOfPair a b
  | .not v => v
  | .xor a b => secOfPair a b
  | .srlatch r s => secOfLatch r s
  | .runlight i => i

/-- The bits of `sec` an experiment reads; the others are ignored (30_encoding.md R83, R84). -/
def Instr.secMask : Instr → Sec
  | .nop0 | .nop1 | .nop2 | .blink | .stepclk | .nop5 | .upcnt | .dncnt | .gray | .graybin => 0b0000#4
  | .and _ _ => 0b1111#4
  | .or _ _ => 0b1111#4
  | .not _ => 0b1111#4
  | .xor _ _ => 0b1111#4
  | .srlatch _ _ => 0b0011#4
  | .runlight _ => 0b1111#4

/-- The encoder: the sample word of an experiment (30_encoding.md R80, R84). -/
def encode (i : Instr) : Sample := sampleOf i.code i.sec

/-- The name of an experiment in the code map (30_encoding.md R84). -/
def Instr.mnemonic : Instr → Mnemonic
  | .nop0 => .nop0
  | .nop1 => .nop1
  | .nop2 => .nop2
  | .blink => .blink
  | .stepclk => .stepclk
  | .nop5 => .nop5
  | .upcnt => .upcnt
  | .dncnt => .dncnt
  | .gray => .gray
  | .graybin => .graybin
  | .and _ _ => .and
  | .or _ _ => .or
  | .not _ => .not
  | .xor _ _ => .xor
  | .srlatch _ _ => .srlatch
  | .runlight _ => .runlight

/-- The code a mnemonic names; the alias NOP names none (30_encoding.md R84, R90). -/
def Mnemonic.code : Mnemonic → Option Code
  | .nop0 => some 0b0000#4
  | .nop1 => some 0b0001#4
  | .nop2 => some 0b0010#4
  | .blink => some 0b0011#4
  | .stepclk => some 0b0100#4
  | .nop5 => some 0b0101#4
  | .upcnt => some 0b0110#4
  | .dncnt => some 0b0111#4
  | .gray => some 0b1000#4
  | .graybin => some 0b1001#4
  | .and => some 0b1010#4
  | .or => some 0b1011#4
  | .not => some 0b1100#4
  | .xor => some 0b1101#4
  | .srlatch => some 0b1110#4
  | .runlight => some 0b1111#4
  | .nop => none

/-- The `sec` an operand part writes; left out, "it then stands for 0000" (30_encoding.md R89). -/
def TraceOperand.value : TraceOperand → Sec
  | .absent => 0#4
  | .sec v => v
  | .pair a b => secOfPair a b
  | .latch s r => secOfLatch r s

/-- The sample a well-formed trace line writes (30_encoding.md R89). -/
def assemble (l : TraceLine) : Option Sample :=
  if l.wellFormed then l.name.code.map (sampleOf · l.operand.value) else none

/-- The trace line of an experiment, with `sec=` where it must be given (30_encoding.md R89). -/
def Instr.line (i : Instr) : TraceLine :=
  ⟨i.mnemonic, if i.mnemonic.needsSec then .sec i.sec else .absent⟩

/-- The experiment the decoder reads from a table word of `nbits` bits. A sample has 8, the one length of 30_encoding.md
R80, and only that length has a meaning there. DESIGN CHOICE, log entry 12: bits of `w` above `nbits` are dropped, a word
of fewer than 8 bits is extended with zeros to a sample, a word of more than 8 bits is none. -/
def decodeTableWord (nbits w : Nat) : Option Instr :=
  if nbits ≤ 8 then
    match decodeBytes [BitVec.ofNat 8 (w % 2 ^ nbits)] with
    | .ok (i, _) => some i
    | .error _ => none
  else none

end Sys2Proof
end

