-- ==== Sys2Proof/Config.lean ====
section
/-! DEFINITION. What an implementation fixes and what stays free. -/
namespace Sys2Proof

/-- The level the environment puts on port `sel` for the n-th sample that the stimulus list does not name. A FREE
VALUE: "a sample is a free 4-bit draw per port" (93_implementation_defined.md U8, 70_reset_and_hazards.md R230).
Log entry 3. -/
opaque Config.freeSel : Nat → Code

/-- The level on port `sec` for that same sample; a FREE VALUE as `Config.freeSel`. Log entry 3. -/
opaque Config.freeSec : Nat → Sec

/-- The default of the parameter LEGACY_FALLTHROUGH, "the default and the normative behaviour" (00_scope.md R7,
40_dispatch.md R114). Log entry 2. -/
def Config.legacyDefault : Bool := false

end Sys2Proof
end

