-- ==== Sys2Proof/Machine/State.lean ====
section
/-! DEFINITION. The state of the block: the five elements of 10_state.md R20, the iteration's event list, the
parameter, and the environment's stimulus. Plain data. -/
namespace Sys2Proof.Machine

/-- ClockState: the enumeration {0, 1, 2} (10_state.md R24). The pattern 3 cannot be written down
(93_implementation_defined.md U3). Log entry 5. -/
inductive ClockState where
  | zero | one | two
deriving DecidableEq, Repr

/-- A clock tier (10_state.md R27): LOW, MID, HIGH. The pattern 3 cannot be written down
(93_implementation_defined.md U4). Log entry 5. -/
inductive Tier where
  | low | mid | high
deriving DecidableEq, Repr

/-- PreviousSelectionCode: the startup sentinel or a 4-bit code (10_state.md R25, R26). The patterns 17..31 cannot be
written down (93_implementation_defined.md U4). Log entry 5. -/
inductive PrevSel where
  | sentinel
  | code (c : Code)
deriving DecidableEq, Repr

/-- What an iteration emits (00_scope.md R10). -/
inductive Event where
  /-- `ClockSet(t)`: the clock service is commanded to tier `t` (40_dispatch.md R111). -/
  | clockSet (t : Tier)
  /-- `OutWrite(v)`: the six bits `v` were written to OUT (40_dispatch.md R109). -/
  | outWrite (v : Led)
  /-- `Delay(ms, t)`: the delay service is asked for `ms` milliseconds at the declared tier (40_dispatch.md R112). -/
  | delay (ms : Millis) (t : Tier)
deriving DecidableEq, Repr

/-- What the environment presents between two iterations (40_dispatch.md R100, 70_reset_and_hazards.md R223). -/
inductive Input where
  /-- The levels on the two ports at the next sampling instant (20_memory.md R57). -/
  | sample (sel : Code) (sec : Sec)
  /-- The hardware reset. Log entry 7. -/
  | reset
deriving DecidableEq, Repr

/-- The machine between two iterations. -/
structure State where
  /-- OUT, the output latch shown on `led` (10_state.md R21, R22). -/
  out : Led
  /-- CNT, the Gray counter (10_state.md R23). -/
  cnt : BitVec 4
  /-- CKS, the clock-step state (10_state.md R24). -/
  cks : ClockState
  /-- PSEL, the last code the detector acted on (10_state.md R25, R26). -/
  psel : PrevSel
  /-- TIER, the tier of the most recent `ClockSet` (10_state.md R27). -/
  tier : Tier
  /-- The event list of the iteration just run, in order (00_scope.md R10, 40_dispatch.md R101). -/
  events : List Event
  /-- The events of the iterations before it, oldest first: the model's record (40_dispatch.md R102). Log entry 4. -/
  history : List Event
  /-- What the environment will present, next first: the stimulus trace (00_scope.md R2). Log entry 3. -/
  stimulus : List Input
  /-- How many samples were drawn from the free values of Config: the model's counter. Log entry 3. -/
  draws : Nat
  /-- The parameter LEGACY_FALLTHROUGH, fixed for a whole run (40_dispatch.md R114). Log entry 2. -/
  legacyFallthrough : Bool
deriving DecidableEq, Repr

/-- The faults: none. "The hardware raises no synchronous exception" (60_exceptions.md R190), and no behaviour has the
treatment `fault` (93_implementation_defined.md). -/
inductive Fault where
deriving DecidableEq, Repr

/-- The refusals. -/
inductive Refusal where
  /-- Raised by `exec` for an instruction that has no meaning yet: none at present. Safe: the run stops. -/
  | notModelled (mnemonic : String)
deriving DecidableEq, Repr

/-- The machine after a hardware reset (10_state.md R36, R37; 70_reset_and_hazards.md R220). TIER is unspecified there:
LOW is a DESIGN CHOICE, log entry 1. -/
def State.reset : State where
  out := 0#6
  cnt := 0#4
  cks := .zero
  psel := .sentinel
  tier := .low
  events := []
  history := []
  stimulus := []
  draws := 0
  legacyFallthrough := Config.legacyDefault

end Sys2Proof.Machine
end

