-- ==== Sys2Proof/Machine/Flags.lean ====
section
/-! DEFINITION. The hardware has no flags (10_state.md R32). Here stand the conditions an iteration computes, uses and
does not store, and the bit patterns of the enumerated registers that they compare. -/
namespace Sys2Proof.Machine

/-- CKS as 2 bits (10_state.md R24). -/
def ClockState.bits : ClockState → BitVec 2
  | .zero => 0#2
  | .one => 1#2
  | .two => 2#2

/-- TIER as 2 bits: LOW = 0, MID = 1, HIGH = 2 (10_state.md R27). -/
def Tier.bits : Tier → BitVec 2
  | .low => 0#2
  | .mid => 1#2
  | .high => 2#2

/-- PSEL as 5 bits: the sentinel is 16, a code is `zext_5` of itself (10_state.md R26). -/
def PrevSel.bits : PrevSel → BitVec 5
  | .sentinel => 16#5
  | .code c => c.setWidth 5

/-- The detector's condition `zext_5(In.sel) != PSEL` (40_dispatch.md R103). -/
def State.selectionChanged (s : State) (sel : Code) : Bool :=
  sel.setWidth 5 != s.psel.bits

/-- The running light's reseed condition, on the value after masking to 6 bits (45_running_light.md R170). -/
def lightGone (t : Led) : Bool := t == 0#6

end Sys2Proof.Machine
end

