-- ==== Sys2Proof/Machine/Tables.lean ====
section
/-! DEFINITION. The two constant tables (20_memory.md R51, R53) and their read (R54). -/
namespace Sys2Proof.Machine

/-- GRAY_TAB, the binary-to-Gray table (20_memory.md R51). -/
def grayTab : Vector (BitVec 4) 16 :=
  #v[0, 1, 3, 2, 6, 7, 5, 4, 12, 13, 15, 14, 10, 11, 9, 8]

/-- DELAY_TAB, milliseconds (20_memory.md R53). -/
def delayTab : Vector Millis 16 :=
  #v[50, 75, 150, 200, 300, 400, 600, 800, 1000, 1200, 1600, 2400, 3200, 4000, 4300, 4600]

/-- `RomRead(T, i)`: entry `i` of table `T`; the index is a 4-bit value, so it is always in range (20_memory.md R54). -/
def romRead {n : Nat} (T : Vector (BitVec n) 16) (i : BitVec 4) : BitVec n :=
  T[i.toNat]'i.isLt

end Sys2Proof.Machine
end

