-- ==== Sys2Proof/Machine/Ops.lean ====
section
/-! DEFINITION. The named operations every iteration is built from: the input sampler, the selection-change detector,
the output sink, the two service commands, the arithmetic, and the reset. The hardware has no exceptions
(60_exceptions.md R190, R194), so there is no operation that takes one. -/
namespace Sys2Proof.Machine

/-! ### The input sampler -/

/-- What the environment presents next: the head of the stimulus, else a free sample (20_memory.md R57,
93_implementation_defined.md U8). Log entry 3. -/
def State.nextInput (s : State) : Input :=
  match s.stimulus with
  | [] => .sample (Config.freeSel s.draws) (Config.freeSec s.draws)
  | i :: _ => i

/-- The start of an iteration: the input is taken, the finished iteration's events go to the history, and the event
list is empty (40_dispatch.md R101 phase 1). -/
def State.beginIteration (s : State) : State :=
  { s with
    events := []
    history := s.history ++ s.events
    stimulus := s.stimulus.tail
    draws := if s.stimulus.isEmpty then s.draws + 1 else s.draws }

/-! ### The output sink and the services -/

/-- `emit E` (00_scope.md R10). -/
def State.emit (s : State) (e : Event) : State :=
  { s with events := s.events ++ [e] }

/-- `OUT <- v ; emit OutWrite(OUT)`: all six bits at once (20_memory.md R58, 40_dispatch.md R109). -/
def State.writeOut (s : State) (v : Led) : State :=
  { s with out := v, events := s.events ++ [.outWrite v] }

/-- `TIER <- t ; emit ClockSet(t)` (40_dispatch.md R111). -/
def State.setClock (s : State) (t : Tier) : State :=
  { s with tier := t, events := s.events ++ [.clockSet t] }

/-- `emit Delay(ms, TIER)`: every delay declares the current tier (40_dispatch.md R110, R112). -/
def State.requestDelay (s : State) (ms : Millis) : State :=
  { s with events := s.events ++ [.delay ms s.tier] }

/-- `CNT <- v` (10_state.md R23). -/
def State.writeCnt (s : State) (v : BitVec 4) : State :=
  { s with cnt := v }

/-- `CKS <- v` (10_state.md R24). -/
def State.writeCks (s : State) (v : ClockState) : State :=
  { s with cks := v }

/-! ### The selection-change detector -/

/-- `TierOf(sel)` (40_dispatch.md R105). -/
def tierOf (sel : Code) : Tier :=
  if sel = 0#4 then .low
  else if sel = 1#4 then .mid
  else .high

/-- The detector's actions, in the order of 40_dispatch.md R104. -/
def State.transition (s : State) (sel : Code) : State :=
  (({ s with psel := .code sel }.writeOut 0#6).writeCnt 0#4).writeCks .zero |>.setClock (tierOf sel)

/-- The Selection-Change Detector: it acts when the code differs from the stored one, else it writes nothing
(40_dispatch.md R103, R104). -/
def State.detect (s : State) (sel : Code) : State :=
  if s.selectionChanged sel then s.transition sel else s

/-! ### Arithmetic (42_counters.md R134: unsigned, wrapping silently) -/

/-- `zext_6(trunc_4(v + 1))` (42_counters.md R130). -/
def upMod16 (v : Led) : Led := (BitVec.ofNat 4 (v.toNat + 1)).setWidth 6

/-- `zext_6(trunc_4(v - 1))`, on the two's-complement form of the difference (42_counters.md R131). -/
def downMod16 (v : Led) : Led := (BitVec.ofInt 4 ((v.toNat : Int) - 1)).setWidth 6

/-- `(c + 1) mod m` as a 4-bit value (42_counters.md R132, R133). -/
def cntNext (c : BitVec 4) (m : Nat) : BitVec 4 := BitVec.ofNat 4 ((c.toNat + 1) % m)

/-- `trunc_6((g << 3) + c)` (42_counters.md R133). -/
def grayBeside (g c : BitVec 4) : Led := BitVec.ofNat 6 (g.toNat * 8 + c.toNat)

/-- `v ^ 0b000001`: toggle bit 0, keep bits 5:1 (41_clock_blink.md R120, R121). -/
def toggleBit0 (v : Led) : Led := v ^^^ 0b000001#6

/-- `trunc_6(v << 1)`, reseeded at bit 0 when nothing is left (45_running_light.md R170). -/
def walkLight (v : Led) : Led :=
  let t : Led := BitVec.ofNat 6 (v.toNat * 2)
  if lightGone t then t ||| 0b000001#6 else t

/-- `S | (R & OUT[0])` as six bits (44_latch.md R160). -/
def latchNext (r s : BitVec 1) (v : Led) : Led :=
  let hold : BitVec 1 := r &&& v.extractLsb' 0 1
  (s ||| hold).setWidth 6

/-! ### The stepped clock -/

/-- The tier a step of the stepped clock selects, by the value CKS has before it advances (41_clock_blink.md R120). -/
def ClockState.tier : ClockState → Tier
  | .zero => .low
  | .one => .mid
  | .two => .high

/-- CKS advances 0, 1, 2, 0 (41_clock_blink.md R120). -/
def ClockState.next : ClockState → ClockState
  | .zero => .one
  | .one => .two
  | .two => .zero

/-- Phases 3 and 4 of STEPCLK, which LEGACY_FALLTHROUGH also runs for codes 0, 1, 2 (41_clock_blink.md R120,
40_dispatch.md R114). -/
def State.stepClock (s : State) : State :=
  ((s.setClock s.cks.tier).writeCks s.cks.next).writeOut (toggleBit0 s.out) |>.requestDelay 500#13

/-- Phase 3 of NOP0, NOP1, NOP2: empty, or STEPCLK's under LEGACY_FALLTHROUGH (46_noop.md R180 to R182,
40_dispatch.md R114). -/
def State.noopOrFallthrough (s : State) : State :=
  if s.legacyFallthrough then s.stepClock else s

/-! ### Reset and the outside view -/

/-- The hardware reset: the five elements take the reset values (70_reset_and_hazards.md R220, R223). The parameter and
the environment's fields stay. Log entry 7. -/
def State.hardReset (s : State) : State :=
  { s with
    out := State.reset.out
    cnt := State.reset.cnt
    cks := State.reset.cks
    psel := State.reset.psel
    tier := State.reset.tier }

/-- The frequency of a tier in MHz (10_state.md R28). -/
def Tier.mhz : Tier → Nat
  | .low => 4
  | .mid => 8
  | .high => 16

/-- Line `i` of port `led` (10_state.md R22). -/
def State.led (s : State) (i : Fin 6) : Bool := s.out.getLsbD i

/-- Everything emitted so far, in order (40_dispatch.md R102). -/
def State.log (s : State) : List Event := s.history ++ s.events

/-- The arguments of the `ClockSet` events, in order (40_dispatch.md R111). -/
def clockSets : List Event → List Tier
  | [] => []
  | .clockSet t :: es => t :: clockSets es
  | .outWrite _ :: es => clockSets es
  | .delay _ _ :: es => clockSets es

/-- The arguments of the `OutWrite` events, in order (40_dispatch.md R109). -/
def outWrites : List Event → List Led
  | [] => []
  | .outWrite v :: es => v :: outWrites es
  | .clockSet _ :: es => outWrites es
  | .delay _ _ :: es => outWrites es

/-- The arguments of the `Delay` events, in order (40_dispatch.md R112). -/
def delays : List Event → List (Millis × Tier)
  | [] => []
  | .delay ms t :: es => (ms, t) :: delays es
  | .clockSet _ :: es => delays es
  | .outWrite _ :: es => delays es

/-- What is known of the external oscillator's setting, if the clock service obeys: the argument of the latest
`ClockSet`, and nothing before the first (10_state.md R33 b). After a reset, also one that comes mid-run, it is unknown
again until the next `ClockSet`, that is while PSEL holds the sentinel: DESIGN CHOICE, log entry 11, since the spec
leaves open whether the clock service keeps its tier through a reset (R37, 70_reset_and_hazards.md R220). -/
def State.oscillator (s : State) : Option Tier :=
  match s.psel with
  | .sentinel => none
  | .code _ => (clockSets s.log).getLast?

/-- The nominal time the emitted delays ask for, in milliseconds (70_reset_and_hazards.md R233). -/
def nominalMs (es : List Event) : Nat := ((delays es).map fun d => d.1.toNat).sum

end Sys2Proof.Machine
end

