-- ==== Sys2Proof/Machine/ClockBlink.lean ====
section
/-! DEFINITION. The stepped-clock and blink experiments (41_clock_blink.md). -/
namespace Sys2Proof.Machine

/-- STEPCLK (41_clock_blink.md R120). -/
def execStepclk (s : State) : Host.Outcome State Fault Refusal :=
  .next s.stepClock

/-- BLINK (41_clock_blink.md R121). -/
def execBlink (s : State) : Host.Outcome State Fault Refusal :=
  .next ((s.writeOut (toggleBit0 s.out)).requestDelay 500#13)

end Sys2Proof.Machine
end

