-- ==== Sys2Proof/Machine/Counters.lean ====
section
/-! DEFINITION. The counter experiments (42_counters.md). -/
namespace Sys2Proof.Machine

/-- UPCNT (42_counters.md R130). -/
def execUpcnt (s : State) : Host.Outcome State Fault Refusal :=
  .next ((s.writeOut (upMod16 s.out)).requestDelay 1000#13)

/-- DNCNT (42_counters.md R131). -/
def execDncnt (s : State) : Host.Outcome State Fault Refusal :=
  .next ((s.writeOut (downMod16 s.out)).requestDelay 1000#13)

/-- GRAY: the counter advances, then the table is read with the new value (42_counters.md R132). -/
def execGray (s : State) : Host.Outcome State Fault Refusal :=
  let s := s.writeCnt (cntNext s.cnt 16)
  .next ((s.writeOut ((romRead grayTab s.cnt).setWidth 6)).requestDelay 1000#13)

/-- GRAYBIN: the counter advances, then its Gray code stands beside it (42_counters.md R133). -/
def execGraybin (s : State) : Host.Outcome State Fault Refusal :=
  let s := s.writeCnt (cntNext s.cnt 8)
  .next ((s.writeOut (grayBeside (romRead grayTab s.cnt) s.cnt)).requestDelay 1000#13)

end Sys2Proof.Machine
end

