-- ==== Sys2Proof/Machine/Gates.lean ====
section
/-! DEFINITION. The gate experiments (43_gates.md): no state read, no delay. -/
namespace Sys2Proof.Machine

/-- AND (43_gates.md R150). -/
def execAnd (a b : BitVec 2) (s : State) : Host.Outcome State Fault Refusal :=
  .next (s.writeOut ((a &&& b).setWidth 6))

/-- OR (43_gates.md R151). -/
def execOr (a b : BitVec 2) (s : State) : Host.Outcome State Fault Refusal :=
  .next (s.writeOut ((a ||| b).setWidth 6))

/-- NOT (43_gates.md R152): the complement is of four bits. -/
def execNot (v : BitVec 4) (s : State) : Host.Outcome State Fault Refusal :=
  .next (s.writeOut ((~~~v).setWidth 6))

/-- XOR (43_gates.md R153). -/
def execXor (a b : BitVec 2) (s : State) : Host.Outcome State Fault Refusal :=
  .next (s.writeOut ((a ^^^ b).setWidth 6))

end Sys2Proof.Machine
end

