-- ==== Sys2Proof/Machine/Latch.lean ====
section
/-! DEFINITION. The SR-latch experiment (44_latch.md). -/
namespace Sys2Proof.Machine

/-- SRLATCH (44_latch.md R160): `R = 0` drops the stored bit, set wins, no delay. -/
def execSrlatch (r set : BitVec 1) (s : State) : Host.Outcome State Fault Refusal :=
  .next (s.writeOut (latchNext r set s.out))

end Sys2Proof.Machine
end

