-- ==== Sys2Proof/Machine/Noop.lean ====
section
/-! DEFINITION. The four no-op experiments (46_noop.md). -/
namespace Sys2Proof.Machine

/-- NOP0 (46_noop.md R180, 40_dispatch.md R114). -/
def execNop0 (s : State) : Host.Outcome State Fault Refusal :=
  .next s.noopOrFallthrough

/-- NOP1 (46_noop.md R181, 40_dispatch.md R114). -/
def execNop1 (s : State) : Host.Outcome State Fault Refusal :=
  .next s.noopOrFallthrough

/-- NOP2 (46_noop.md R182, 40_dispatch.md R114). -/
def execNop2 (s : State) : Host.Outcome State Fault Refusal :=
  .next s.noopOrFallthrough

/-- NOP5: "a no-op under both settings" (46_noop.md R183). -/
def execNop5 (s : State) : Host.Outcome State Fault Refusal :=
  .next s

end Sys2Proof.Machine
end

