-- ==== Sys2Proof/Machine/RunningLight.lean ====
section
/-! DEFINITION. The dynamic running-light experiment (45_running_light.md). -/
namespace Sys2Proof.Machine

/-- RUNLIGHT (45_running_light.md R170): `sec` sets the delay only. -/
def execRunlight (i : BitVec 4) (s : State) : Host.Outcome State Fault Refusal :=
  .next ((s.writeOut (walkLight s.out)).requestDelay (romRead delayTab i))

end Sys2Proof.Machine
end

