-- ==== Sys2Proof/Machine/Dispatch.lean ====
section
/-! DEFINITION. The Behavior Table: one arm per experiment, phases 3 and 4 of the iteration (40_dispatch.md R101,
R107). -/
namespace Sys2Proof.Machine

def exec (i : Instr) (s : State) : Host.Outcome State Fault Refusal :=
  match i with
  | .nop0 => Sys2Proof.Machine.execNop0 s
  | .nop1 => Sys2Proof.Machine.execNop1 s
  | .nop2 => Sys2Proof.Machine.execNop2 s
  | .blink => Sys2Proof.Machine.execBlink s
  | .stepclk => Sys2Proof.Machine.execStepclk s
  | .nop5 => Sys2Proof.Machine.execNop5 s
  | .upcnt => Sys2Proof.Machine.execUpcnt s
  | .dncnt => Sys2Proof.Machine.execDncnt s
  | .gray => Sys2Proof.Machine.execGray s
  | .graybin => Sys2Proof.Machine.execGraybin s
  | .and a b => Sys2Proof.Machine.execAnd a b s
  | .or a b => Sys2Proof.Machine.execOr a b s
  | .not v => Sys2Proof.Machine.execNot v s
  | .xor a b => Sys2Proof.Machine.execXor a b s
  | .srlatch r q => Sys2Proof.Machine.execSrlatch r q s
  | .runlight k => Sys2Proof.Machine.execRunlight k s

end Sys2Proof.Machine
end

