-- ==== Sys2Proof/Machine/Step.lean ====
section
/-! DEFINITION. One iteration of the loop (40_dispatch.md R101), and where a sample is placed for the next one. -/
namespace Sys2Proof.Machine

/-- One step: take the next input; a sample goes through the detector and then through the experiment its code
selects (40_dispatch.md R101), a reset gives the reset state (70_reset_and_hazards.md R223). -/
def step (s : State) : Host.Outcome State Fault Refusal :=
  match s.nextInput with
  | .sample sel sec => exec (decode (sampleOf sel sec)) (s.beginIteration.detect sel)
  | .reset => .next s.beginIteration.hardReset

/-- The state whose next iteration samples the word `w`: it is put before the rest of the stimulus. Log
entry 3. A sample has 8 bits (30_encoding.md R80). DESIGN CHOICE, log entry 12: bits of `w` above `nbits` are dropped, a
word of fewer than 8 bits is extended with zeros, and of a word of more than 8 bits the low 8 are presented. -/
def State.withFetchWord (s : State) (nbits w : Nat) : State :=
  let W : Sample := BitVec.ofNat 8 (w % 2 ^ nbits)
  { s with stimulus := .sample (selOf W) (secOf W) :: s.stimulus }

end Sys2Proof.Machine
end

