-- ==== Sys2Proof/Safety.lean ====
section
/-! DEFINITION. What holds at the end of every iteration of a run from reset (10_state.md R35), and what the commands
to the services keep true (40_dispatch.md R111, R112). -/
namespace Sys2Proof.Machine

/-- The outcome of a step that neither faults nor refuses (60_exceptions.md R190). -/
def Completes (o : Host.Outcome State Fault Refusal) : Prop := ∃ t, o = .next t

/-- The codes whose phase 3 is STEPCLK's: 4, and 0, 1, 2 under LEGACY_FALLTHROUGH (40_dispatch.md R114). -/
def stepsClock (legacy : Bool) (c : Code) : Bool :=
  c == 4#4 || (legacy && (c == 0#4 || c == 1#4 || c == 2#4))

/-- The values OUT takes while code `c` is held (10_state.md R35 I-f). For codes 0, 1, 2 under LEGACY_FALLTHROUGH the
range is STEPCLK's (95_test_vectors.md P6); log entry 10. -/
def outValues (legacy : Bool) (c : Code) : List Nat :=
  if stepsClock legacy c then [0, 1]
  else match c.toNat with
    | 3 | 14 => [0, 1]
    | 6 | 7 | 8 | 12 => List.range 16
    | 9 => [0, 9, 26, 19, 52, 61, 46, 39]
    | 10 | 11 | 13 => List.range 4
    | 15 => [1, 2, 4, 8, 16, 32]
    | _ => [0]

/-- The invariants I-b to I-f of 10_state.md R35, and the values a state holds before its first iteration (R36). -/
structure RegistersLegal (s : State) : Prop where
  /-- Before the first iteration OUT, CNT and CKS are zero (R36). -/
  at_sentinel : s.psel = .sentinel → s.out = 0#6 ∧ s.cnt = 0#4 ∧ s.cks = .zero
  /-- I-b: CKS is 0 for a code that does not step the clock. -/
  cks_idle : ∀ c, s.psel = .code c → stepsClock s.legacyFallthrough c = false → s.cks = .zero
  /-- I-c: CNT is 0 for a code other than 8 and 9. -/
  cnt_idle : ∀ c, s.psel = .code c → c ≠ 8#4 → c ≠ 9#4 → s.cnt = 0#4
  /-- I-c: for code 9, CNT is at most 7. -/
  cnt_graybin : s.psel = .code 9#4 → s.cnt.toNat ≤ 7
  /-- I-e: a code that does not step the clock runs at the tier the detector selects for it. -/
  tier_held : ∀ c, s.psel = .code c → stepsClock s.legacyFallthrough c = false → s.tier = tierOf c
  /-- I-e: for a code that steps the clock, TIER is the tier of the value CKS advanced from. -/
  tier_stepped : ∀ c, s.psel = .code c → stepsClock s.legacyFallthrough c = true →
    ∃ k : ClockState, s.tier = k.tier ∧ s.cks = k.next
  /-- I-f: the range of OUT by current code. -/
  out_range : ∀ c, s.psel = .code c → s.out.toNat ∈ outValues s.legacyFallthrough c

/-- Every `Delay` of the list declares the tier of the latest `ClockSet` before it, where `last` is the latest one
before the list (40_dispatch.md R112, 70_reset_and_hazards.md R226). -/
def delaysDeclare (last : Option Tier) : List Event → Bool
  | [] => true
  | .clockSet t :: es => delaysDeclare (some t) es
  | .outWrite _ :: es => delaysDeclare last es
  | .delay _ t :: es => decide (last = some t) && delaysDeclare last es

/-- TIER is the argument of the latest `ClockSet` from the first iteration on (40_dispatch.md R111), and no `Delay` so
far disagrees with the `ClockSet` before it (R112). -/
structure ClockCoherent (s : State) : Prop where
  tier_latest : s.psel ≠ .sentinel → s.oscillator = some s.tier
  delays_agree : delaysDeclare none s.log = true

end Sys2Proof.Machine
end

