-- ==== Sys2Proof/Certificates/Slice0/Obligations.lean ====
section
/-! DEFINITION. The statements for the provers. Each says which rule of spec/ it formalises; OBLIGATIONS.json lists
them. -/

open Sys2Proof Sys2Proof.Machine

/-! ### Encoding -/

/-- Decoding the sample of an experiment gives the experiment back, for every operand (30_encoding.md R80, R84). -/
def Obligations.DecodeOfEncode : Prop :=
  ∀ i : Instr, decode (encode i) = i

/-- Two samples decode alike exactly when their codes agree and the bits of `sec` that the experiment reads agree: no
read bit is dropped and no ignored bit matters (30_encoding.md R83, R84). -/
def Obligations.DecodeReadsExactlyTheOperandBits : Prop :=
  ∀ w w' : Sample, decode w = decode w' ↔
    selOf w = selOf w' ∧ secOf w &&& (decode w).secMask = secOf w' &&& (decode w).secMask

/-- Encoding a decoded sample gives the sample with its ignored bits at 0 (30_encoding.md R83, R89). -/
def Obligations.EncodeOfDecode : Prop :=
  ∀ w : Sample, encode (decode w) = sampleOf (selOf w) (secOf w &&& (decode w).secMask)

/-- `sel` is the whole opcode (30_encoding.md R81): the experiment's code is `W[7:4]`, the sixteen codes name sixteen
experiments, and `sec` never changes which experiment runs. -/
def Obligations.SelIsTheWholeOpcode : Prop :=
  (∀ w : Sample, (decode w).code = selOf w) ∧
  (∀ i j : Instr, i.code = j.code ↔ i.mnemonic = j.mnemonic) ∧
  (∀ (sel : Code) (sec sec' : Sec),
    (decode (sampleOf sel sec)).mnemonic = (decode (sampleOf sel sec')).mnemonic)

/-- Words written out bit by bit from 30_encoding.md R84 decode to the experiments they stand for, one a family. -/
def Obligations.WrittenWordsDecode : Prop :=
  decode 0b01010111#8 = .nop5 ∧ decode 0b01000000#8 = .stepclk ∧ decode 0b10010000#8 = .graybin ∧
  decode 0b10111001#8 = .or 0b10#2 0b01#2 ∧ decode 0b11001010#8 = .not 0b1010#4 ∧
  decode 0b11101110#8 = .srlatch 1#1 0#1 ∧ decode 0b11100001#8 = .srlatch 0#1 1#1 ∧
  decode 0b11110011#8 = .runlight 0b0011#4

/-- The trace line of an experiment is well formed and assembles to its sample (30_encoding.md R89). -/
def Obligations.LineOfInstrAssembles : Prop :=
  ∀ i : Instr, i.line.wellFormed = true ∧ assemble i.line = some (encode i)

/-- A well-formed trace line assembles to a sample of the experiment it names with the `sec` it writes, any other line
to nothing (30_encoding.md R89, R90). `sec=` may be left out, and then stands for 0000, but for AND, OR, NOT, XOR,
SRLATCH and RUNLIGHT; the alias NOP is never well formed; `a= b=` writes {a, b} and `S= R=` writes {00, R, S}. That
`a= b=` and `S= R=` are refused on the other experiments, and that `sec=` may be given where it is ignored, is the
model's deduction, log entry 13. -/
def Obligations.TraceLinesAssemble : Prop :=
  (∀ l : TraceLine, l.wellFormed = true →
    ∃ w, assemble l = some w ∧ (decode w).mnemonic = l.name ∧ secOf w = l.operand.value) ∧
  (∀ l : TraceLine, l.wellFormed = false → assemble l = none) ∧
  (∀ o : TraceOperand, assemble ⟨.nop, o⟩ = none) ∧
  (∀ n : Mnemonic, (TraceLine.mk n .absent).wellFormed = true ↔
    n ∉ [.and, .or, .not, .xor, .srlatch, .runlight, .nop]) ∧
  (∀ (n : Mnemonic) (v : Sec), (TraceLine.mk n (.sec v)).wellFormed = true ↔ n ≠ .nop) ∧
  (∀ (n : Mnemonic) (a b : BitVec 2), (TraceLine.mk n (.pair a b)).wellFormed = true ↔ n ∈ [.and, .or, .xor]) ∧
  (∀ (n : Mnemonic) (s r : BitVec 1), (TraceLine.mk n (.latch s r)).wellFormed = true ↔ n = .srlatch) ∧
  TraceOperand.absent.value = 0#4 ∧ (∀ v : Sec, (TraceOperand.sec v).value = v) ∧
  (∀ a b : BitVec 2, (TraceOperand.pair a b).value.extractLsb' 2 2 = a ∧
    (TraceOperand.pair a b).value.extractLsb' 0 2 = b) ∧
  (∀ s r : BitVec 1, (TraceOperand.latch s r).value.extractLsb' 0 1 = s ∧
    (TraceOperand.latch s r).value.extractLsb' 1 1 = r ∧ (TraceOperand.latch s r).value.extractLsb' 2 2 = 0#2)

/-! ### The iteration -/

/-- A step on a presented sample runs the decoded experiment: the input is taken, the events of the last iteration are
filed, the detector runs on `sel`, then the experiment (40_dispatch.md R101, R107). -/
def Obligations.StepRunsTheDecodedSample : Prop :=
  ∀ (s : State) (sel : Code) (sec : Sec) (rest : List Input) (i : Instr),
    s.stimulus = .sample sel sec :: rest → decode (sampleOf sel sec) = i →
    step s = exec i (State.detect
      { s with events := [], history := s.history ++ s.events, stimulus := rest } sel)

/-- With no stimulus listed the step samples free values of the two ports (93_implementation_defined.md U8; log entry
3: the model's form of an arbitrary environment). -/
def Obligations.StepDrawsAFreeSample : Prop :=
  ∀ s : State, s.stimulus = [] →
    step s = exec (decode (sampleOf (Config.freeSel s.draws) (Config.freeSec s.draws))) (State.detect
      { s with events := [], history := s.history ++ s.events, draws := s.draws + 1 }
      (Config.freeSel s.draws))

/-- A table word placed for the next iteration is the experiment that the next step runs (30_encoding.md R80; log
entry 3). -/
def Obligations.PlacedWordRunsNext : Prop :=
  ∀ (s : State) (w : Nat), w < 256 → ∃ i, decodeTableWord 8 w = some i ∧
    step (s.withFetchWord 8 w) = exec i (State.detect
      { s with events := [], history := s.history ++ s.events } (BitVec.ofNat 4 (w / 16)))

/-- The detector: it fires exactly when the sampled code differs from PSEL as 5-bit values, always at the sentinel
(40_dispatch.md R103); then it writes the five elements and emits the two events in order, else it writes nothing
(R104; that the zero of OUT is recorded as an event is the spec's decision D21). -/
def Obligations.DetectorActsExactlyOnChange : Prop :=
  (∀ (s : State) (sel : Code), sel.setWidth 5 ≠ s.psel.bits →
    s.detect sel = { s with psel := .code sel, out := 0#6, cnt := 0#4, cks := .zero, tier := tierOf sel,
                            events := s.events ++ [.outWrite 0#6, .clockSet (tierOf sel)] }) ∧
  (∀ (s : State) (sel : Code), sel.setWidth 5 = s.psel.bits → s.detect sel = s) ∧
  (∀ (s : State) (sel : Code), s.psel = .sentinel → sel.setWidth 5 ≠ s.psel.bits)

/-- The tier function, and the command is issued also when the new tier equals the old one (40_dispatch.md R105). -/
def Obligations.TierOfSelectionCode : Prop :=
  (∀ sel : Code, sel.toNat = 0 → tierOf sel = .low) ∧
  (∀ sel : Code, sel.toNat = 1 → tierOf sel = .mid) ∧
  (∀ sel : Code, 2 ≤ sel.toNat → tierOf sel = .high) ∧
  (∀ (s : State) (sel : Code), s.psel ≠ .code sel → s.tier = tierOf sel →
    clockSets (s.detect sel).events = clockSets s.events ++ [tierOf sel])

/-- The first iteration is always a transition: whatever the first sample, the experiment runs on the zeroed state
with `OutWrite(0)` and the first `ClockSet` emitted, as 70_reset_and_hazards.md R221 itself says. -/
def Obligations.FirstIterationIsATransition : Prop :=
  ∀ (s : State) (sel : Code) (sec : Sec) (rest : List Input),
    s.psel = .sentinel → s.stimulus = .sample sel sec :: rest →
    step s = exec (decode (sampleOf sel sec))
      { s with out := 0#6, cnt := 0#4, cks := .zero, psel := .code sel, tier := tierOf sel,
               events := [.outWrite 0#6, .clockSet (tierOf sel)],
               history := s.history ++ s.events, stimulus := rest }

/-- PSEL (10_state.md R26; the number 16 and the 5 bits are the spec's decision D7): 5 bits, the sentinel is 16, a
code enters as `zext_5` of itself, at most 15 and never the sentinel; at reset PSEL is the sentinel, and an iteration
leaves it at the code it sampled. -/
def Obligations.PreviousSelectionHoldsTheSampledCode : Prop :=
  PrevSel.sentinel.bits = 16#5 ∧ State.reset.psel = .sentinel ∧
  (∀ c : Code, (PrevSel.code c).bits = c.setWidth 5 ∧ (PrevSel.code c).bits.toNat ≤ 15) ∧
  (∀ (s t : State) (sel : Code) (sec : Sec),
    s.nextInput = .sample sel sec → step s = .next t → t.psel = .code sel)

/-! ### Reset -/

/-- After a hardware reset OUT, CNT and CKS are 0 (10_state.md R36, the spec's decision D9). -/
def Obligations.ResetZeroesOutCntCks : Prop :=
  State.reset.out = 0#6 ∧ State.reset.cnt = 0#4 ∧ State.reset.cks.bits = 0#2

/-- A reset input gives the reset values of the five elements and keeps the parameter and the environment's fields
(70_reset_and_hazards.md R223). That TIER is then the value of `State.reset` is the model's choice (log entry 1), that
a reset lands between iterations too (log entry 7). -/
def Obligations.ResetInputGivesTheResetState : Prop :=
  ∀ (s : State) (rest : List Input), s.stimulus = .reset :: rest →
    step s = .next
      { State.reset with events := [], history := s.history ++ s.events, stimulus := rest, draws := s.draws,
                         legacyFallthrough := s.legacyFallthrough }

/-- No iteration depends on what TIER held at reset: while PSEL is the sentinel, two states that differ in TIER alone
step alike (10_state.md R37, 93_implementation_defined.md U1). -/
def Obligations.TierAtResetIsNeverRead : Prop :=
  ∀ (s : State) (u : Tier) (sel : Code) (sec : Sec),
    s.psel = .sentinel → s.nextInput = .sample sel sec → step { s with tier := u } = step s

/-! ### The experiments -/

/-- NOP0, NOP1, NOP2 (46_noop.md R180, R181, R182; that they are no-ops by default and run STEPCLK's phase 3 under
LEGACY_FALLTHROUGH is the spec's decision D16, and that the parameter is a field of the state is log entry 2): with
the parameter false phase 3 is empty, and selecting one zeroes the state, sets its tier, LOW by code 0 only, MID by
code 1 only, and emits nothing else but the detector's two events (the zero is one by D21); with the parameter true
phase 3 is STEPCLK's. -/
def Obligations.NoopsOnlySelectTheTier : Prop :=
  (∀ (i : Instr) (c : Code) (u : Tier), (i, c, u) ∈ [(.nop0, 0#4, .low), (.nop1, 1#4, .mid), (.nop2, 2#4, .high)] →
    (∀ sec : Sec, decode (sampleOf c sec) = i) ∧
    (∀ s : State, s.legacyFallthrough = false → exec i s = .next s) ∧
    (∀ s : State, s.legacyFallthrough = true → ∃ t, exec .stepclk s = .next t ∧ exec i s = .next t) ∧
    (∀ (s : State) (sec : Sec) (rest : List Input),
      s.legacyFallthrough = false → s.psel ≠ .code c → s.stimulus = .sample c sec :: rest →
      step s = .next
        { s with out := 0#6, cnt := 0#4, cks := .zero, psel := .code c, tier := u,
                 events := [.outWrite 0#6, .clockSet u], history := s.history ++ s.events, stimulus := rest })) ∧
  (∀ c : Code, tierOf c = .low ↔ c = 0#4) ∧ (∀ c : Code, tierOf c = .mid ↔ c = 1#4)

/-- NOP5 (46_noop.md R183): a no-op under both settings of LEGACY_FALLTHROUGH, which is the spec's decision D16 (log
entry 2 for the field); 93_implementation_defined.md U10 calls a claim on code 5 with the parameter true unsupported
for parity with the original firmware, so this speaks of the spec's block only. Selecting it zeroes the state and sets
HIGH. -/
def Obligations.Nop5IsANoopUnderBothSettings : Prop :=
  (∀ sec : Sec, decode (sampleOf 5#4 sec) = .nop5) ∧
  (∀ s : State, exec .nop5 s = .next s) ∧
  (∀ (s : State) (sec : Sec) (rest : List Input), s.psel ≠ .code 5#4 → s.stimulus = .sample 5#4 sec :: rest →
    step s = .next
      { s with out := 0#6, cnt := 0#4, cks := .zero, psel := .code 5#4, tier := .high,
               events := [.outWrite 0#6, .clockSet .high], history := s.history ++ s.events, stimulus := rest })

/-- LEGACY_FALLTHROUGH (40_dispatch.md R114, the spec's decision D16; log entry 2): when true, codes 0, 1, 2 run
STEPCLK's phase 3 as code 4 does; when false they are no-ops; code 5 is a no-op under both; the detector does not look
at it. -/
def Obligations.LegacyFallthroughRunsSteppedClock : Prop :=
  (∀ s : State, s.legacyFallthrough = true → ∃ t, exec .stepclk s = .next t ∧
    exec .nop0 s = .next t ∧ exec .nop1 s = .next t ∧ exec .nop2 s = .next t) ∧
  (∀ s : State, s.legacyFallthrough = false →
    exec .nop0 s = .next s ∧ exec .nop1 s = .next s ∧ exec .nop2 s = .next s) ∧
  (∀ s : State, exec .nop5 s = .next s) ∧
  (∀ (s : State) (b : Bool) (sel : Code),
    State.detect { s with legacyFallthrough := b } sel = { s.detect sel with legacyFallthrough := b })

/-- STEPCLK (41_clock_blink.md R120), one clause for each value of CKS: the tier by the value before it advances (the
spec's decision D14), the toggle of bit 0, the delay at the tier just set; nothing else changes. -/
def Obligations.StepclkSetsTierAdvancesAndToggles : Prop :=
  (∀ sec : Sec, decode (sampleOf 4#4 sec) = .stepclk) ∧
  (∀ s : State, s.cks = .zero → exec .stepclk s = .next
    { s with tier := .low, cks := .one, out := s.out ^^^ 1#6,
             events := s.events ++ [.clockSet .low, .outWrite (s.out ^^^ 1#6), .delay 500#13 .low] }) ∧
  (∀ s : State, s.cks = .one → exec .stepclk s = .next
    { s with tier := .mid, cks := .two, out := s.out ^^^ 1#6,
             events := s.events ++ [.clockSet .mid, .outWrite (s.out ^^^ 1#6), .delay 500#13 .mid] }) ∧
  (∀ s : State, s.cks = .two → exec .stepclk s = .next
    { s with tier := .high, cks := .zero, out := s.out ^^^ 1#6,
             events := s.events ++ [.clockSet .high, .outWrite (s.out ^^^ 1#6), .delay 500#13 .high] })

/-- BLINK (41_clock_blink.md R121): bit 0 of OUT is inverted, bits 5:1 keep their values, 500 ms at the current tier;
nothing else changes. -/
def Obligations.BlinkTogglesBitZero : Prop :=
  (∀ sec : Sec, decode (sampleOf 3#4 sec) = .blink) ∧
  (∀ s : State, ∃ v : Led, v.getLsbD 0 = !s.out.getLsbD 0 ∧
    (∀ k : Nat, 1 ≤ k → v.getLsbD k = s.out.getLsbD k) ∧
    exec .blink s = .next
      { s with out := v, events := s.events ++ [.outWrite v, .delay 500#13 s.tier] })

/-- UPCNT (42_counters.md R130): (OUT + 1) mod 16 for every 6-bit OUT, 1000 ms; nothing else changes. -/
def Obligations.UpcntAddsOneModSixteen : Prop :=
  (∀ sec : Sec, decode (sampleOf 6#4 sec) = .upcnt) ∧
  (∀ s : State, ∃ v : Led, v.toNat = (s.out.toNat + 1) % 16 ∧ exec .upcnt s = .next
    { s with out := v, events := s.events ++ [.outWrite v, .delay 1000#13 s.tier] })

/-- DNCNT (42_counters.md R131): (OUT - 1) mod 16, with 0 - 1 = 15, for every 6-bit OUT, 1000 ms; nothing else
changes; and counting up and counting down undo each other on 0..15. -/
def Obligations.DncntSubtractsOneModSixteen : Prop :=
  (∀ sec : Sec, decode (sampleOf 7#4 sec) = .dncnt) ∧
  (∀ s : State, ∃ v : Led, (v.toNat : Int) = ((s.out.toNat : Int) - 1) % 16 ∧ exec .dncnt s = .next
    { s with out := v, events := s.events ++ [.outWrite v, .delay 1000#13 s.tier] }) ∧
  (∀ v : Led, v.toNat < 16 → downMod16 (upMod16 v) = v ∧ upMod16 (downMod16 v) = v)

/-- GRAY (42_counters.md R132): CNT advances mod 16, OUT is the table entry of the new CNT (the spec's decision D18),
1000 ms; nothing else changes. -/
def Obligations.GrayAdvancesThenReadsTheTable : Prop :=
  (∀ sec : Sec, decode (sampleOf 8#4 sec) = .gray) ∧
  (∀ s : State, ∃ c : BitVec 4, c.toNat = (s.cnt.toNat + 1) % 16 ∧ exec .gray s = .next
    { s with cnt := c, out := (romRead grayTab c).setWidth 6,
             events := s.events ++ [.outWrite ((romRead grayTab c).setWidth 6), .delay 1000#13 s.tier] })

/-- GRAYBIN (42_counters.md R133): CNT advances mod 8, before the lookup (the spec's decision D18); OUT is (g << 3) +
CNT with g the table entry of the new CNT, which is the 3-bit Gray code beside the 3-bit count; 1000 ms; nothing else
changes. -/
def Obligations.GraybinShowsGrayBesideCount : Prop :=
  (∀ sec : Sec, decode (sampleOf 9#4 sec) = .graybin) ∧
  (∀ s : State, ∃ (c : BitVec 4) (v : Led), c.toNat = (s.cnt.toNat + 1) % 8 ∧
    v.toNat = (romRead grayTab c).toNat * 8 + c.toNat ∧
    v = (romRead grayTab c).extractLsb' 0 3 ++ c.extractLsb' 0 3 ∧
    exec .graybin s = .next
      { s with cnt := c, out := v, events := s.events ++ [.outWrite v, .delay 1000#13 s.tier] })

/-- AND, OR and XOR (43_gates.md R150, R151, R153): the bitwise result of `sec[3:2]` and `sec[1:0]` in OUT[1:0], 0 in
OUT[5:2], no delay; nothing else changes. -/
def Obligations.PairGatesCombineHighAndLow : Prop :=
  (∀ sec : Sec,
    decode (sampleOf 10#4 sec) = .and (sec.extractLsb' 2 2) (sec.extractLsb' 0 2) ∧
    decode (sampleOf 11#4 sec) = .or (sec.extractLsb' 2 2) (sec.extractLsb' 0 2) ∧
    decode (sampleOf 13#4 sec) = .xor (sec.extractLsb' 2 2) (sec.extractLsb' 0 2)) ∧
  (∀ (a b : BitVec 2) (s : State),
    (∃ v : Led, (∀ k : Nat, v.getLsbD k = (a.getLsbD k && b.getLsbD k)) ∧
      exec (.and a b) s = .next { s with out := v, events := s.events ++ [.outWrite v] }) ∧
    (∃ v : Led, (∀ k : Nat, v.getLsbD k = (a.getLsbD k || b.getLsbD k)) ∧
      exec (.or a b) s = .next { s with out := v, events := s.events ++ [.outWrite v] }) ∧
    (∃ v : Led, (∀ k : Nat, v.getLsbD k = (a.getLsbD k != b.getLsbD k)) ∧
      exec (.xor a b) s = .next { s with out := v, events := s.events ++ [.outWrite v] }))

/-- NOT (43_gates.md R152): 15 - sec, so OUT[5:4] is 0, no delay; nothing else changes. -/
def Obligations.NotComplementsFourBits : Prop :=
  (∀ sec : Sec, decode (sampleOf 12#4 sec) = .not sec) ∧
  (∀ (x : BitVec 4) (s : State), ∃ v : Led, v.toNat = 15 - x.toNat ∧
    exec (.not x) s = .next { s with out := v, events := s.events ++ [.outWrite v] })

/-- SRLATCH (44_latch.md R160), its truth table: set wins, else R = 1 holds OUT[0] (the bitwise reading is the spec's
decision D15), else cleared; OUT[5:1] is 0; no delay; nothing else changes. -/
def Obligations.SrlatchTruthTable : Prop :=
  (∀ sec : Sec, decode (sampleOf 14#4 sec) = .srlatch (sec.extractLsb' 1 1) (sec.extractLsb' 0 1)) ∧
  (∀ (r : BitVec 1) (s : State),
    exec (.srlatch r 1#1) s = .next { s with out := 1#6, events := s.events ++ [.outWrite 1#6] }) ∧
  (∀ s : State,
    exec (.srlatch 0#1 0#1) s = .next { s with out := 0#6, events := s.events ++ [.outWrite 0#6] }) ∧
  (∀ s : State, ∃ v : Led, v.toNat = s.out.toNat % 2 ∧
    exec (.srlatch 1#1 0#1) s = .next { s with out := v, events := s.events ++ [.outWrite v] })

/-- RUNLIGHT (45_running_light.md R170): the six low bits of the shift, or 1 when they are 0; the delay is the table
entry of `sec`; nothing else changes. -/
def Obligations.RunlightShiftsAndReseeds : Prop :=
  (∀ sec : Sec, decode (sampleOf 15#4 sec) = .runlight sec) ∧
  (∀ (k : BitVec 4) (s : State), ∃ v : Led,
    v.toNat = (if s.out.toNat * 2 % 64 = 0 then 1 else s.out.toNat * 2 % 64) ∧
    exec (.runlight k) s = .next
      { s with out := v, events := s.events ++ [.outWrite v, .delay (romRead delayTab k) s.tier] })

/-! ### The tables -/

/-- GRAY_TAB entry by entry (20_memory.md R51). -/
def Obligations.GrayTableEntries : Prop :=
  ∀ i : BitVec 4, [0, 1, 3, 2, 6, 7, 5, 4, 12, 13, 15, 14, 10, 11, 9, 8][i.toNat]? = some (romRead grayTab i).toNat

/-- GRAY_TAB's properties (20_memory.md R52): consecutive entries, cyclically, differ in exactly one bit; each entry
is `i ^ (i >> 1)`; the table is a permutation; its first eight entries are below 8. -/
def Obligations.GrayTableProperties : Prop :=
  (∀ i : BitVec 4, ∃ k < 4, romRead grayTab i ^^^ romRead grayTab (i + 1#4) = 1#4 <<< k) ∧
  (∀ i : BitVec 4, romRead grayTab i = i ^^^ (i >>> 1)) ∧
  (∀ v : BitVec 4, ∃ i, romRead grayTab i = v ∧ ∀ j, romRead grayTab j = v → j = i) ∧
  (∀ i : BitVec 4, i.toNat < 8 → (romRead grayTab i).toNat < 8)

/-- DELAY_TAB entry by entry; the table is strictly increasing (20_memory.md R53). -/
def Obligations.DelayTableEntries : Prop :=
  (∀ i : BitVec 4,
    [50, 75, 150, 200, 300, 400, 600, 800, 1000, 1200, 1600, 2400, 3200, 4000, 4300, 4600][i.toNat]? =
      some (romRead delayTab i).toNat) ∧
  (∀ i j : BitVec 4, i.toNat < j.toNat → (romRead delayTab i).toNat < (romRead delayTab j).toNat)

/-! ### The whole machine -/

/-- The set of faults is empty, and the step is total: every state has a next state, on every input (60_exceptions.md
R190). -/
def Obligations.EveryStepAnswersNext : Prop :=
  (∀ _ : Fault, False) ∧ ∀ s : State, Completes (step s)

/-- The invariants I-b to I-f of 10_state.md R35 are kept by every step, from every state that meets them. -/
def Obligations.LegalRegistersAreKept : Prop :=
  ∀ s t : State, RegistersLegal s → step s = .next t → RegistersLegal t

/-- The reset state meets those invariants, under either setting of the parameter and before any stimulus (10_state.md
R35, R36). -/
def Obligations.ResetRegistersAreLegal : Prop :=
  ∀ (legacy : Bool) (inputs : List Input),
    RegistersLegal { State.reset with legacyFallthrough := legacy, stimulus := inputs }

/-- Every step keeps it true that TIER is the latest `ClockSet` and that every `Delay` so far declared the latest
`ClockSet` before it (40_dispatch.md R111, R112; 70_reset_and_hazards.md R226). -/
def Obligations.ClockCoherenceIsKept : Prop :=
  ∀ s t : State, ClockCoherent s → step s = .next t → ClockCoherent t

/-- The reset state, before any stimulus, meets that invariant. -/
def Obligations.ResetIsClockCoherent : Prop :=
  ∀ (legacy : Bool) (inputs : List Input),
    ClockCoherent { State.reset with legacyFallthrough := legacy, stimulus := inputs }

/-- The events of an iteration stand in the order of 20_memory.md R65: the detector's zero (an event by the spec's
decision D21) and `ClockSet`, then STEPCLK's `ClockSet`, then the experiment's `OutWrite`, then at most one `Delay`,
after the write (D13) and at the current tier (D17): 500 ms for BLINK and STEPCLK's phase 3, 1000 ms for the counters,
the table entry of `sec` for RUNLIGHT, else none (40_dispatch.md R109, R112; 70_reset_and_hazards.md R233). Codes 0,
1, 2 emit nothing of their own by default; that with LEGACY_FALLTHROUGH true they emit STEPCLK's `ClockSet`,
`OutWrite` and `Delay` is 40_dispatch.md R114, the spec's decision D16, with the parameter held in the field of log
entry 2. -/
def Obligations.IterationEventsInOrder : Prop :=
  ∀ (s t : State) (sel : Code) (sec : Sec), s.nextInput = .sample sel sec → step s = .next t →
    ∃ detector clock write wait : List Event,
      t.events = detector ++ clock ++ write ++ wait ∧
      detector = (if s.psel = .code sel then [] else [.outWrite 0#6, .clockSet (tierOf sel)]) ∧
      clock = (if stepsClock s.legacyFallthrough sel then [.clockSet t.tier] else []) ∧
      write = (if sel = 5#4 ∨ (sel.toNat < 3 ∧ s.legacyFallthrough = false) then [] else [.outWrite t.out]) ∧
      wait = (if sel = 3#4 ∨ stepsClock s.legacyFallthrough sel = true then [.delay 500#13 t.tier]
        else if 6 ≤ sel.toNat ∧ sel.toNat ≤ 9 then [.delay 1000#13 t.tier]
        else if sel = 15#4 then [.delay (romRead delayTab sec) t.tier]
        else [])

/-- Over an iteration OUT becomes the last `OutWrite` and keeps its value if there is none, and line i of `led` shows
bit i of OUT (10_state.md R22, 20_memory.md R58, 40_dispatch.md R109). A reset input is no iteration: it changes OUT
with no event (log entries 4 and 7). -/
def Obligations.LedChangesOnlyByOutWrite : Prop :=
  ∀ (s t : State) (sel : Code) (sec : Sec), s.nextInput = .sample sel sec → step s = .next t →
    t.out = (outWrites t.events).getLast?.getD s.out ∧
    ∀ i : Fin 6, t.led i = ((outWrites t.events).getLast?.getD s.out).getLsbD i ∧ s.led i = s.out.getLsbD i

/-- The frame of the Behavior Table (10_state.md R20, R23 to R27): no experiment writes PSEL or what belongs to the
environment, it only appends events; CNT is written by GRAY and GRAYBIN only; CKS and TIER, and `ClockSet`, by STEPCLK
only; OUT by all but the no-ops. That codes 0, 1, 2 write as STEPCLK does when LEGACY_FALLTHROUGH is true is
40_dispatch.md R114, the spec's decision D16 (log entry 2). -/
def Obligations.ExperimentFrame : Prop :=
  ∀ (i : Instr) (s t : State), exec i s = .next t →
    t.psel = s.psel ∧ t.history = s.history ∧ t.stimulus = s.stimulus ∧ t.draws = s.draws ∧
    t.legacyFallthrough = s.legacyFallthrough ∧
    (i ≠ .gray → i ≠ .graybin → t.cnt = s.cnt) ∧
    (i = .nop5 → t.out = s.out) ∧
    (s.legacyFallthrough = false → i ∈ [.nop0, .nop1, .nop2] → t.out = s.out) ∧
    ∃ es, t.events = s.events ++ es ∧
      (stepsClock s.legacyFallthrough i.code = false → t.cks = s.cks ∧ t.tier = s.tier ∧ clockSets es = [])

/-- What a step does with the model's own fields: the last events are filed, one input is taken, the parameter is
fixed (10_state.md R29, 40_dispatch.md R114; log entries 2 to 4). -/
def Obligations.StepFilesEventsAndKeepsTheParameter : Prop :=
  ∀ s t : State, step s = .next t →
    t.history = s.history ++ s.events ∧ t.stimulus = s.stimulus.tail ∧
    t.draws = s.draws + (if s.stimulus = [] then 1 else 0) ∧ t.legacyFallthrough = s.legacyFallthrough

/-- The bits of `sec` that an experiment does not read have no effect on state or events (30_encoding.md R83): none is
read for codes 0 to 9, `sec[1:0]` for code 14, all four for the others. -/
def Obligations.IgnoredBitsHaveNoEffect : Prop :=
  (∀ w : Sample, (decode w).secMask =
    if (selOf w).toNat < 10 then 0b0000#4 else if selOf w = 14#4 then 0b0011#4 else 0b1111#4) ∧
  (∀ (s : State) (sel : Code) (sec sec' : Sec) (rest : List Input),
    sec &&& (decode (sampleOf sel sec)).secMask = sec' &&& (decode (sampleOf sel sec)).secMask →
    step { s with stimulus := .sample sel sec :: rest } = step { s with stimulus := .sample sel sec' :: rest })

/-- A transition forgets the past: after it the five elements and the events are the same whatever the registers held
before (70_reset_and_hazards.md R237, R229; 40_dispatch.md R106). -/
def Obligations.TransitionForgetsThePast : Prop :=
  ∀ (s s' t t' : State) (sel : Code) (sec : Sec),
    s.nextInput = .sample sel sec → s'.nextInput = .sample sel sec →
    s.psel ≠ .code sel → s'.psel ≠ .code sel → s.legacyFallthrough = s'.legacyFallthrough →
    step s = .next t → step s' = .next t' →
    t.out = t'.out ∧ t.cnt = t'.cnt ∧ t.cks = t'.cks ∧ t.psel = t'.psel ∧ t.tier = t'.tier ∧ t.events = t'.events

/-- The first result of every experiment after its selection is its rule applied to zeroed state (40_dispatch.md
R108): UPCNT 1, DNCNT 15, GRAY 1 and GRAYBIN 9 (both by the spec's decision D18), BLINK 1, STEPCLK 1, RUNLIGHT 1,
SRLATCH S; the gates their result on `sec`; NOP5 0, and NOP0, NOP1, NOP2 0, or STEPCLK's 1 under LEGACY_FALLTHROUGH
(D16, log entry 2). -/
def Obligations.FirstResultAfterSelection : Prop :=
  (∀ (c : Code) (v : Led),
    (c, v) ∈ [(6#4, 1#6), (7#4, 15#6), (8#4, 1#6), (9#4, 9#6), (3#4, 1#6), (4#4, 1#6), (15#4, 1#6), (5#4, 0#6)] →
    ∀ (s : State) (sec : Sec) (rest : List Input), s.psel ≠ .code c → s.stimulus = .sample c sec :: rest →
      ∃ t, step s = .next t ∧ t.out = v) ∧
  (∀ c ∈ [0#4, 1#4, 2#4],
    ∀ (s : State) (sec : Sec) (rest : List Input), s.psel ≠ .code c → s.stimulus = .sample c sec :: rest →
      ∃ t, step s = .next t ∧ t.out = if s.legacyFallthrough then 1#6 else 0#6) ∧
  (∀ (c : Code) (f : Sec → Nat),
    (c, f) ∈ [(10#4, fun x => x.toNat / 4 &&& x.toNat % 4), (11#4, fun x => x.toNat / 4 ||| x.toNat % 4),
      (12#4, fun x => 15 - x.toNat), (13#4, fun x => x.toNat / 4 ^^^ x.toNat % 4), (14#4, fun x => x.toNat % 2)] →
    ∀ (s : State) (sec : Sec) (rest : List Input), s.psel ≠ .code c → s.stimulus = .sample c sec :: rest →
      ∃ t, step s = .next t ∧ t.out.toNat = f sec)

/-! ### Holding a selection: the sequences, for every `sec` -/

/-- Holding UPCNT or DNCNT from its selection, whatever `sec` does: after n iterations OUT is n mod 16, respectively
-n mod 16 (42_counters.md R130 b, R131 b). -/
def Obligations.HeldBinaryCountersCount : Prop :=
  ∀ (s : State) (secs : List Sec) (rest : List Input), secs ≠ [] →
    (s.psel ≠ .code 6#4 → s.stimulus = secs.map (Input.sample 6#4) ++ rest →
      ∃ t, core.run secs.length s = .next t ∧ t.stimulus = rest ∧ t.out.toNat = secs.length % 16) ∧
    (s.psel ≠ .code 7#4 → s.stimulus = secs.map (Input.sample 7#4) ++ rest →
      ∃ t, core.run secs.length s = .next t ∧ t.stimulus = rest ∧
        (t.out.toNat : Int) = (-(secs.length : Int)) % 16)

/-- Holding GRAY or GRAYBIN from its selection: after n iterations CNT is n mod 16, respectively n mod 8, and OUT
shows the table entry of it (42_counters.md R132, R133). That the n-th output is entry n, and not entry n - 1, is the
spec's decision D18: advance, then look up. -/
def Obligations.HeldGrayCountersWalkTheTable : Prop :=
  ∀ (s : State) (secs : List Sec) (rest : List Input), secs ≠ [] →
    (s.psel ≠ .code 8#4 → s.stimulus = secs.map (Input.sample 8#4) ++ rest →
      ∃ t, core.run secs.length s = .next t ∧ t.stimulus = rest ∧ t.cnt.toNat = secs.length % 16 ∧
        t.out.toNat = (romRead grayTab (BitVec.ofNat 4 (secs.length % 16))).toNat) ∧
    (s.psel ≠ .code 9#4 → s.stimulus = secs.map (Input.sample 9#4) ++ rest →
      ∃ t, core.run secs.length s = .next t ∧ t.stimulus = rest ∧ t.cnt.toNat = secs.length % 8 ∧
        t.out.toNat =
          (romRead grayTab (BitVec.ofNat 4 (secs.length % 8))).toNat * 8 + secs.length % 8)

/-- Holding BLINK or STEPCLK from its selection: bit 0 alternates with period 2 and CKS cycles with period 3
(41_clock_blink.md R120 b, R121 a); TIER is the tier of the value CKS left, which is the spec's decision D14. -/
def Obligations.HeldTogglesAlternate : Prop :=
  ∀ (s : State) (secs : List Sec) (rest : List Input), secs ≠ [] →
    (s.psel ≠ .code 3#4 → s.stimulus = secs.map (Input.sample 3#4) ++ rest →
      ∃ t, core.run secs.length s = .next t ∧ t.stimulus = rest ∧ t.out.toNat = secs.length % 2) ∧
    (s.psel ≠ .code 4#4 → s.stimulus = secs.map (Input.sample 4#4) ++ rest →
      ∃ t, core.run secs.length s = .next t ∧ t.stimulus = rest ∧ t.out.toNat = secs.length % 2 ∧
        t.cks.bits.toNat = secs.length % 3 ∧ t.tier.bits.toNat = (secs.length - 1) % 3)

/-- Holding RUNLIGHT from its selection: the light walks 1, 2, 4, 8, 16, 32 and re-enters, and each iteration asks for
the table entry of the `sec` it sampled, at HIGH (45_running_light.md R170). -/
def Obligations.HeldRunningLightWalks : Prop :=
  ∀ (s : State) (secs : List Sec) (rest : List Input), secs ≠ [] →
    s.psel ≠ .code 15#4 → s.stimulus = secs.map (Input.sample 15#4) ++ rest →
    ∃ t, core.run secs.length s = .next t ∧ t.stimulus = rest ∧ t.out.toNat = 2 ^ ((secs.length - 1) % 6) ∧
      delays t.log = delays s.log ++ secs.map fun x => (romRead delayTab x, Tier.high)

/-- The nominal delay of an iteration, by the experiment it samples (70_reset_and_hazards.md R233): 500 ms for BLINK
and STEPCLK, 1000 ms for the counters, the table entry for RUNLIGHT, none for the others, NOP0, NOP1 and NOP2 among
them by default. That codes 0, 1, 2 ask for STEPCLK's 500 ms when LEGACY_FALLTHROUGH is true is 40_dispatch.md R114,
the spec's decision D16, with the parameter held in the field of log entry 2. -/
def Obligations.NominalDelayPerExperiment : Prop :=
  ∀ (s t : State) (sel : Code) (sec : Sec), s.nextInput = .sample sel sec → step s = .next t →
    nominalMs t.events =
      if sel = 3#4 ∨ stepsClock s.legacyFallthrough sel = true then 500
      else if 6 ≤ sel.toNat ∧ sel.toNat ≤ 9 then 1000
      else if sel = 15#4 then (romRead delayTab sec).toNat
      else 0
end

