-- ==== Sys2Proof/Laws/State.lean ====
section
/-! SUPPORT. One lemma per field per update of the state, so that no proof unfolds a record update. -/
namespace Sys2Proof.Machine.State

variable (s : State)

/-! ### emit -/

@[simp] theorem emit_out (e : Event) : (s.emit e).out = s.out := rfl
@[simp] theorem emit_cnt (e : Event) : (s.emit e).cnt = s.cnt := rfl
@[simp] theorem emit_cks (e : Event) : (s.emit e).cks = s.cks := rfl
@[simp] theorem emit_psel (e : Event) : (s.emit e).psel = s.psel := rfl
@[simp] theorem emit_tier (e : Event) : (s.emit e).tier = s.tier := rfl
@[simp] theorem emit_events (e : Event) : (s.emit e).events = s.events ++ [e] := rfl
@[simp] theorem emit_history (e : Event) : (s.emit e).history = s.history := rfl
@[simp] theorem emit_stimulus (e : Event) : (s.emit e).stimulus = s.stimulus := rfl
@[simp] theorem emit_draws (e : Event) : (s.emit e).draws = s.draws := rfl
@[simp] theorem emit_legacyFallthrough (e : Event) : (s.emit e).legacyFallthrough = s.legacyFallthrough := rfl

/-! ### writeOut -/

@[simp] theorem writeOut_out (v : Led) : (s.writeOut v).out = v := rfl
@[simp] theorem writeOut_cnt (v : Led) : (s.writeOut v).cnt = s.cnt := rfl
@[simp] theorem writeOut_cks (v : Led) : (s.writeOut v).cks = s.cks := rfl
@[simp] theorem writeOut_psel (v : Led) : (s.writeOut v).psel = s.psel := rfl
@[simp] theorem writeOut_tier (v : Led) : (s.writeOut v).tier = s.tier := rfl
@[simp] theorem writeOut_events (v : Led) : (s.writeOut v).events = s.events ++ [.outWrite v] := rfl
@[simp] theorem writeOut_history (v : Led) : (s.writeOut v).history = s.history := rfl
@[simp] theorem writeOut_stimulus (v : Led) : (s.writeOut v).stimulus = s.stimulus := rfl
@[simp] theorem writeOut_draws (v : Led) : (s.writeOut v).draws = s.draws := rfl
@[simp] theorem writeOut_legacyFallthrough (v : Led) : (s.writeOut v).legacyFallthrough = s.legacyFallthrough := rfl

/-! ### setClock -/

@[simp] theorem setClock_out (t : Tier) : (s.setClock t).out = s.out := rfl
@[simp] theorem setClock_cnt (t : Tier) : (s.setClock t).cnt = s.cnt := rfl
@[simp] theorem setClock_cks (t : Tier) : (s.setClock t).cks = s.cks := rfl
@[simp] theorem setClock_psel (t : Tier) : (s.setClock t).psel = s.psel := rfl
@[simp] theorem setClock_tier (t : Tier) : (s.setClock t).tier = t := rfl
@[simp] theorem setClock_events (t : Tier) : (s.setClock t).events = s.events ++ [.clockSet t] := rfl
@[simp] theorem setClock_history (t : Tier) : (s.setClock t).history = s.history := rfl
@[simp] theorem setClock_stimulus (t : Tier) : (s.setClock t).stimulus = s.stimulus := rfl
@[simp] theorem setClock_draws (t : Tier) : (s.setClock t).draws = s.draws := rfl
@[simp] theorem setClock_legacyFallthrough (t : Tier) : (s.setClock t).legacyFallthrough = s.legacyFallthrough := rfl

/-! ### requestDelay -/

@[simp] theorem requestDelay_out (ms : Millis) : (s.requestDelay ms).out = s.out := rfl
@[simp] theorem requestDelay_cnt (ms : Millis) : (s.requestDelay ms).cnt = s.cnt := rfl
@[simp] theorem requestDelay_cks (ms : Millis) : (s.requestDelay ms).cks = s.cks := rfl
@[simp] theorem requestDelay_psel (ms : Millis) : (s.requestDelay ms).psel = s.psel := rfl
@[simp] theorem requestDelay_tier (ms : Millis) : (s.requestDelay ms).tier = s.tier := rfl
@[simp] theorem requestDelay_events (ms : Millis) : (s.requestDelay ms).events = s.events ++ [.delay ms s.tier] := rfl
@[simp] theorem requestDelay_history (ms : Millis) : (s.requestDelay ms).history = s.history := rfl
@[simp] theorem requestDelay_stimulus (ms : Millis) : (s.requestDelay ms).stimulus = s.stimulus := rfl
@[simp] theorem requestDelay_draws (ms : Millis) : (s.requestDelay ms).draws = s.draws := rfl
@[simp] theorem requestDelay_legacyFallthrough (ms : Millis) : (s.requestDelay ms).legacyFallthrough = s.legacyFallthrough := rfl

/-! ### writeCnt -/

@[simp] theorem writeCnt_out (v : BitVec 4) : (s.writeCnt v).out = s.out := rfl
@[simp] theorem writeCnt_cnt (v : BitVec 4) : (s.writeCnt v).cnt = v := rfl
@[simp] theorem writeCnt_cks (v : BitVec 4) : (s.writeCnt v).cks = s.cks := rfl
@[simp] theorem writeCnt_psel (v : BitVec 4) : (s.writeCnt v).psel = s.psel := rfl
@[simp] theorem writeCnt_tier (v : BitVec 4) : (s.writeCnt v).tier = s.tier := rfl
@[simp] theorem writeCnt_events (v : BitVec 4) : (s.writeCnt v).events = s.events := rfl
@[simp] theorem writeCnt_history (v : BitVec 4) : (s.writeCnt v).history = s.history := rfl
@[simp] theorem writeCnt_stimulus (v : BitVec 4) : (s.writeCnt v).stimulus = s.stimulus := rfl
@[simp] theorem writeCnt_draws (v : BitVec 4) : (s.writeCnt v).draws = s.draws := rfl
@[simp] theorem writeCnt_legacyFallthrough (v : BitVec 4) : (s.writeCnt v).legacyFallthrough = s.legacyFallthrough := rfl

/-! ### writeCks -/

@[simp] theorem writeCks_out (v : ClockState) : (s.writeCks v).out = s.out := rfl
@[simp] theorem writeCks_cnt (v : ClockState) : (s.writeCks v).cnt = s.cnt := rfl
@[simp] theorem writeCks_cks (v : ClockState) : (s.writeCks v).cks = v := rfl
@[simp] theorem writeCks_psel (v : ClockState) : (s.writeCks v).psel = s.psel := rfl
@[simp] theorem writeCks_tier (v : ClockState) : (s.writeCks v).tier = s.tier := rfl
@[simp] theorem writeCks_events (v : ClockState) : (s.writeCks v).events = s.events := rfl
@[simp] theorem writeCks_history (v : ClockState) : (s.writeCks v).history = s.history := rfl
@[simp] theorem writeCks_stimulus (v : ClockState) : (s.writeCks v).stimulus = s.stimulus := rfl
@[simp] theorem writeCks_draws (v : ClockState) : (s.writeCks v).draws = s.draws := rfl
@[simp] theorem writeCks_legacyFallthrough (v : ClockState) : (s.writeCks v).legacyFallthrough = s.legacyFallthrough := rfl

/-! ### transition -/

@[simp] theorem transition_out (sel : Code) : (s.transition sel).out = 0#6 := rfl
@[simp] theorem transition_cnt (sel : Code) : (s.transition sel).cnt = 0#4 := rfl
@[simp] theorem transition_cks (sel : Code) : (s.transition sel).cks = .zero := rfl
@[simp] theorem transition_psel (sel : Code) : (s.transition sel).psel = .code sel := rfl
@[simp] theorem transition_tier (sel : Code) : (s.transition sel).tier = tierOf sel := rfl
@[simp] theorem transition_history (sel : Code) : (s.transition sel).history = s.history := rfl
@[simp] theorem transition_stimulus (sel : Code) : (s.transition sel).stimulus = s.stimulus := rfl
@[simp] theorem transition_draws (sel : Code) : (s.transition sel).draws = s.draws := rfl
@[simp] theorem transition_legacyFallthrough (sel : Code) : (s.transition sel).legacyFallthrough = s.legacyFallthrough := rfl

/-! ### stepClock -/

@[simp] theorem stepClock_out : s.stepClock.out = toggleBit0 s.out := rfl
@[simp] theorem stepClock_cnt : s.stepClock.cnt = s.cnt := rfl
@[simp] theorem stepClock_cks : s.stepClock.cks = s.cks.next := rfl
@[simp] theorem stepClock_psel : s.stepClock.psel = s.psel := rfl
@[simp] theorem stepClock_tier : s.stepClock.tier = s.cks.tier := rfl
@[simp] theorem stepClock_history : s.stepClock.history = s.history := rfl
@[simp] theorem stepClock_stimulus : s.stepClock.stimulus = s.stimulus := rfl
@[simp] theorem stepClock_draws : s.stepClock.draws = s.draws := rfl
@[simp] theorem stepClock_legacyFallthrough : s.stepClock.legacyFallthrough = s.legacyFallthrough := rfl

/-! ### beginIteration -/

@[simp] theorem beginIteration_out : s.beginIteration.out = s.out := rfl
@[simp] theorem beginIteration_cnt : s.beginIteration.cnt = s.cnt := rfl
@[simp] theorem beginIteration_cks : s.beginIteration.cks = s.cks := rfl
@[simp] theorem beginIteration_psel : s.beginIteration.psel = s.psel := rfl
@[simp] theorem beginIteration_tier : s.beginIteration.tier = s.tier := rfl
@[simp] theorem beginIteration_events : s.beginIteration.events = [] := rfl
@[simp] theorem beginIteration_history : s.beginIteration.history = s.history ++ s.events := rfl
@[simp] theorem beginIteration_stimulus : s.beginIteration.stimulus = s.stimulus.tail := rfl
@[simp] theorem beginIteration_draws : s.beginIteration.draws = if s.stimulus.isEmpty then s.draws + 1 else s.draws := rfl
@[simp] theorem beginIteration_legacyFallthrough : s.beginIteration.legacyFallthrough = s.legacyFallthrough := rfl

/-! ### hardReset -/

@[simp] theorem hardReset_out : s.hardReset.out = 0#6 := rfl
@[simp] theorem hardReset_cnt : s.hardReset.cnt = 0#4 := rfl
@[simp] theorem hardReset_cks : s.hardReset.cks = .zero := rfl
@[simp] theorem hardReset_psel : s.hardReset.psel = .sentinel := rfl
@[simp] theorem hardReset_tier : s.hardReset.tier = .low := rfl
@[simp] theorem hardReset_events : s.hardReset.events = s.events := rfl
@[simp] theorem hardReset_history : s.hardReset.history = s.history := rfl
@[simp] theorem hardReset_stimulus : s.hardReset.stimulus = s.stimulus := rfl
@[simp] theorem hardReset_draws : s.hardReset.draws = s.draws := rfl
@[simp] theorem hardReset_legacyFallthrough : s.hardReset.legacyFallthrough = s.legacyFallthrough := rfl

/-! ### The lists of events of the composite updates -/

theorem transition_events (sel : Code) :
    (s.transition sel).events = s.events ++ [.outWrite 0#6, .clockSet (tierOf sel)] := by
  simp [transition, writeOut, writeCnt, writeCks, setClock]

theorem stepClock_events :
    s.stepClock.events = s.events ++
      [.clockSet s.cks.tier, .outWrite (toggleBit0 s.out), .delay 500#13 s.cks.tier] := by
  simp [stepClock, writeOut, writeCks, setClock, requestDelay]

end Sys2Proof.Machine.State
end

