-- ==== Sys2Proof/Laws/Ops.lean ====
section
/-! SUPPORT. What each shared operation can do, said once: the sampler, the detector, the arithmetic, the tables, the
lists of events, and the inversion of a step. -/
namespace Sys2Proof.Machine

/-! ### The input sampler and the step -/

theorem nextInput_cons {s : State} {i : Input} {rest : List Input} (h : s.stimulus = i :: rest) :
    s.nextInput = i := by
  simp [State.nextInput, h]

theorem nextInput_nil {s : State} (h : s.stimulus = []) :
    s.nextInput = .sample (Config.freeSel s.draws) (Config.freeSec s.draws) := by
  simp [State.nextInput, h]

/-- The two ways a step can go, by the input it takes. -/
theorem step_by_input (s : State) :
    (∃ sel sec, s.nextInput = .sample sel sec ∧
      step s = exec (decode (sampleOf sel sec)) (s.beginIteration.detect sel)) ∨
    (s.nextInput = .reset ∧ step s = .next s.beginIteration.hardReset) := by
  unfold step
  cases h : s.nextInput with
  | sample sel sec => exact .inl ⟨sel, sec, rfl, rfl⟩
  | reset => exact .inr ⟨rfl, rfl⟩

/-! ### The detector -/

theorem bits_injective {p q : PrevSel} (h : p.bits = q.bits) : p = q := by
  cases p with
  | sentinel =>
    cases q with
    | sentinel => rfl
    | code c =>
      have h16 : (16#5).toNat = (c.setWidth 5).toNat := congrArg BitVec.toNat h
      have := c.isLt
      simp at h16
      omega
  | code c =>
    cases q with
    | sentinel =>
      have h16 : (c.setWidth 5).toNat = (16#5).toNat := congrArg BitVec.toNat h
      have := c.isLt
      simp at h16
      omega
    | code d =>
      have hcd : (c.setWidth 5).toNat = (d.setWidth 5).toNat := congrArg BitVec.toNat h
      have := c.isLt
      have := d.isLt
      simp at hcd
      exact congrArg _ (BitVec.eq_of_toNat_eq (by omega))

/-- The 5-bit comparison tells exactly whether PSEL holds the sampled code. -/
theorem selectionChanged_iff (s : State) (sel : Code) :
    s.selectionChanged sel = true ↔ s.psel ≠ .code sel := by
  have key : (PrevSel.code sel).bits = sel.setWidth 5 := rfl
  simp only [State.selectionChanged, bne_iff_ne, ne_eq, not_iff_not]
  constructor
  · intro h
    exact bits_injective (h.symm.trans key.symm)
  · intro h
    rw [h, key]

/-- The detector acts on a changed code and otherwise leaves the state as it is. -/
theorem detect_cases (s : State) (sel : Code) :
    (s.psel ≠ .code sel ∧ s.detect sel = s.transition sel) ∨ (s.psel = .code sel ∧ s.detect sel = s) := by
  by_cases h : s.psel = .code sel
  · refine .inr ⟨h, ?_⟩
    have : s.selectionChanged sel = false := by
      simpa using (not_congr (selectionChanged_iff s sel)).mpr (not_not.mpr h)
    simp [State.detect, this]
  · exact .inl ⟨h, by simp [State.detect, (selectionChanged_iff s sel).mpr h]⟩

/-- After the detector PSEL holds the sampled code. -/
@[simp] theorem detect_psel (s : State) (sel : Code) : (s.detect sel).psel = .code sel := by
  rcases detect_cases s sel with ⟨-, h⟩ | ⟨hp, h⟩
  · simp [h]
  · rw [h, hp]

@[simp] theorem detect_history (s : State) (sel : Code) : (s.detect sel).history = s.history := by
  rcases detect_cases s sel with ⟨-, h⟩ | ⟨-, h⟩ <;> simp [h]

@[simp] theorem detect_stimulus (s : State) (sel : Code) : (s.detect sel).stimulus = s.stimulus := by
  rcases detect_cases s sel with ⟨-, h⟩ | ⟨-, h⟩ <;> simp [h]

@[simp] theorem detect_draws (s : State) (sel : Code) : (s.detect sel).draws = s.draws := by
  rcases detect_cases s sel with ⟨-, h⟩ | ⟨-, h⟩ <;> simp [h]

@[simp] theorem detect_legacyFallthrough (s : State) (sel : Code) :
    (s.detect sel).legacyFallthrough = s.legacyFallthrough := by
  rcases detect_cases s sel with ⟨-, h⟩ | ⟨-, h⟩ <;> simp [h]

theorem tierOf_cases (sel : Code) :
    (sel = 0#4 ∧ tierOf sel = .low) ∨ (sel = 1#4 ∧ tierOf sel = .mid) ∨
    (sel ≠ 0#4 ∧ sel ≠ 1#4 ∧ tierOf sel = .high) := by
  by_cases h0 : sel = 0#4
  · exact .inl ⟨h0, by simp [tierOf, h0]⟩
  · by_cases h1 : sel = 1#4
    · exact .inr (.inl ⟨h1, by simp [tierOf, h1]⟩)
    · exact .inr (.inr ⟨h0, h1, by simp [tierOf, h0, h1]⟩)

/-! ### Arithmetic -/

theorem upMod16_toNat (v : Led) : (upMod16 v).toNat = (v.toNat + 1) % 16 := by
  simp only [upMod16, BitVec.toNat_setWidth, BitVec.toNat_ofNat]
  omega

theorem downMod16_toNat (v : Led) : (downMod16 v).toNat = (v.toNat + 15) % 16 := by
  simp only [downMod16, BitVec.toNat_setWidth, BitVec.toNat_ofInt]
  omega

theorem cntNext_toNat (c : BitVec 4) {m : Nat} (h0 : 0 < m) (hm : m ≤ 16) :
    (cntNext c m).toNat = (c.toNat + 1) % m := by
  have := Nat.mod_lt (c.toNat + 1) h0
  simp only [cntNext, BitVec.toNat_ofNat]
  omega

theorem grayBeside_toNat (g c : BitVec 4) : (grayBeside g c).toNat = (g.toNat * 8 + c.toNat) % 64 := by
  simp [grayBeside]

/-- The toggle inverts bit 0 and keeps every other bit. -/
theorem toggleBit0_getLsbD (v : Led) (i : Nat) :
    (toggleBit0 v).getLsbD i = if i = 0 then !v.getLsbD 0 else v.getLsbD i := by
  have hv : v.getLsbD i = false ∨ i < 6 := by
    by_cases h : i < 6
    · exact .inr h
    · exact .inl (BitVec.getLsbD_of_ge v i (by omega))
  by_cases h0 : i = 0
  · subst h0; simp [toggleBit0]
  · have : (1#6).getLsbD i = false := by
      simp [BitVec.getLsbD_one, h0]
    simp [toggleBit0, h0, this]

theorem toggleBit0_toNat_of_le_one {v : Led} (h : v.toNat ≤ 1) : (toggleBit0 v).toNat = 1 - v.toNat := by
  revert v; decide

theorem walkLight_toNat (v : Led) :
    (walkLight v).toNat = if v.toNat * 2 % 64 = 0 then 1 else v.toNat * 2 % 64 := by
  revert v; decide

theorem latchNext_toNat (r s : BitVec 1) (v : Led) :
    (latchNext r s v).toNat = if s = 1#1 then 1 else if r = 1#1 then v.toNat % 2 else 0 := by
  revert r s v; decide

theorem grayTab_read (i : BitVec 4) : romRead grayTab i = i ^^^ (i >>> 1) := by
  revert i; decide

theorem delayTab_read_pos (i : BitVec 4) : 0 < (romRead delayTab i).toNat := by
  revert i; decide

/-! ### The stepped clock -/

/-- A no-op of code 0, 1 or 2 leaves the state, or runs the stepped clock under the parameter. -/
theorem noopOrFallthrough_cases (s : State) :
    (s.legacyFallthrough = false ∧ s.noopOrFallthrough = s) ∨
    (s.legacyFallthrough = true ∧ s.noopOrFallthrough = s.stepClock) := by
  cases h : s.legacyFallthrough
  · exact .inl ⟨rfl, by simp [State.noopOrFallthrough, h]⟩
  · exact .inr ⟨rfl, by simp [State.noopOrFallthrough, h]⟩

/-! ### The oscillator -/

/-- From a reset to the next `ClockSet` nothing is known of the oscillator. -/
theorem oscillator_of_sentinel {s : State} (h : s.psel = .sentinel) : s.oscillator = none := by
  simp [State.oscillator, h]

/-- From the first iteration on the oscillator is at the latest `ClockSet`. -/
theorem oscillator_of_code {s : State} (h : s.psel ≠ .sentinel) :
    s.oscillator = (clockSets s.log).getLast? := by
  cases hp : s.psel with
  | sentinel => exact absurd hp h
  | code c => simp [State.oscillator, hp]

@[simp] theorem hardReset_oscillator (s : State) : s.hardReset.oscillator = none := rfl

/-! ### The output port -/

/-- Line `i` of `led` is bit `i` of OUT. -/
@[simp] theorem led_eq (s : State) (i : Fin 6) : s.led i = s.out.getLsbD i := rfl

/-! ### Lists of events -/

@[simp] theorem clockSets_append (es fs : List Event) : clockSets (es ++ fs) = clockSets es ++ clockSets fs := by
  induction es with
  | nil => rfl
  | cons e es ih => cases e <;> simp [clockSets, ih]

@[simp] theorem outWrites_append (es fs : List Event) : outWrites (es ++ fs) = outWrites es ++ outWrites fs := by
  induction es with
  | nil => rfl
  | cons e es ih => cases e <;> simp [outWrites, ih]

@[simp] theorem delays_append (es fs : List Event) : delays (es ++ fs) = delays es ++ delays fs := by
  induction es with
  | nil => rfl
  | cons e es ih => cases e <;> simp [delays, ih]

/-- Delays agree over an appended list when they agree over each part, the second after the first's latest
`ClockSet`. -/
theorem delaysDeclare_append (last : Option Tier) (es fs : List Event) :
    delaysDeclare last (es ++ fs) =
      (delaysDeclare last es && delaysDeclare ((clockSets es).getLast?.or last) fs) := by
  induction es generalizing last with
  | nil => simp [delaysDeclare, clockSets]
  | cons e es ih =>
    cases e with
    | clockSet t =>
      simp only [List.cons_append, delaysDeclare, ih, clockSets, List.getLast?_cons]
      cases (clockSets es).getLast? <;> simp
    | outWrite v => simp [delaysDeclare, ih, clockSets]
    | delay ms t => simp [delaysDeclare, ih, clockSets, Bool.and_assoc]

end Sys2Proof.Machine
end

