-- ==== Sys2Proof/Laws/PerInstr.lean ====
section
/-! SUPPORT. A family of facts about every experiment as syntax, one lemma a constructor: its sample carries its code in
`W[7:4]`, and an ignored bit is written 0 (30_encoding.md R84, R89). -/
namespace Sys2Proof.Laws

open Sys2Proof.Machine

/-- The sample of `i` carries its code in the high half, and its ignored bits are 0 (30_encoding.md R80, R84, R89). -/
def EncodedCode.Statement (i : Instr) : Prop :=
  selOf (encode i) = i.code ∧ secOf (encode i) &&& ~~~i.secMask = 0#4

theorem EncodedCode.nop0 : EncodedCode.Statement .nop0 := by
  unfold EncodedCode.Statement; decide

theorem EncodedCode.nop1 : EncodedCode.Statement .nop1 := by
  unfold EncodedCode.Statement; decide

theorem EncodedCode.nop2 : EncodedCode.Statement .nop2 := by
  unfold EncodedCode.Statement; decide

theorem EncodedCode.blink : EncodedCode.Statement .blink := by
  unfold EncodedCode.Statement; decide

theorem EncodedCode.stepclk : EncodedCode.Statement .stepclk := by
  unfold EncodedCode.Statement; decide

theorem EncodedCode.nop5 : EncodedCode.Statement .nop5 := by
  unfold EncodedCode.Statement; decide

theorem EncodedCode.upcnt : EncodedCode.Statement .upcnt := by
  unfold EncodedCode.Statement; decide

theorem EncodedCode.dncnt : EncodedCode.Statement .dncnt := by
  unfold EncodedCode.Statement; decide

theorem EncodedCode.gray : EncodedCode.Statement .gray := by
  unfold EncodedCode.Statement; decide

theorem EncodedCode.graybin : EncodedCode.Statement .graybin := by
  unfold EncodedCode.Statement; decide

theorem EncodedCode.and (a b : BitVec 2) : EncodedCode.Statement (.and a b) := by
  unfold EncodedCode.Statement; revert a b; decide

theorem EncodedCode.or (a b : BitVec 2) : EncodedCode.Statement (.or a b) := by
  unfold EncodedCode.Statement; revert a b; decide

theorem EncodedCode.not (v : BitVec 4) : EncodedCode.Statement (.not v) := by
  unfold EncodedCode.Statement; revert v; decide

theorem EncodedCode.xor (a b : BitVec 2) : EncodedCode.Statement (.xor a b) := by
  unfold EncodedCode.Statement; revert a b; decide

theorem EncodedCode.srlatch (r s : BitVec 1) : EncodedCode.Statement (.srlatch r s) := by
  unfold EncodedCode.Statement; revert r s; decide

theorem EncodedCode.runlight (i : BitVec 4) : EncodedCode.Statement (.runlight i) := by
  unfold EncodedCode.Statement; revert i; decide

end Sys2Proof.Laws
end

