-- ==== Sys2Proof/Tests/Slice0.lean ====
section
/-! SUPPORT. Tests: words written out from 30_encoding.md R84, single steps with the results of 95_test_vectors.md, the
ill-formed trace lines, and a state that meets the hypotheses of each statement. -/
namespace Sys2Proof.Tests

open Sys2Proof Sys2Proof.Machine

/-- The state `OUT/CNT/CKS/PSEL/TIER` of 95_test_vectors.md, with nothing emitted yet. -/
def at5 (out : Led) (cnt : BitVec 4) (cks : ClockState) (psel : Code) (tier : Tier) : State :=
  { State.reset with out := out, cnt := cnt, cks := cks, psel := .code psel, tier := tier }

/-- A view of the state after one iteration on the sample `w`. -/
def after {α : Type} (s : State) (w : Nat) (view : State → α) : Option α :=
  match step (s.withFetchWord 8 w) with
  | .next t => some (view t)
  | .fault _ => none
  | .refused _ => none

/-- The events of one iteration on the sample `w`. -/
def eventsOf (s : State) (w : Nat) : Option (List Event) := after s w State.events

/-! ### Words written out from the code map -/

theorem test_decode_nop0 : decode 0b00000000#8 = .nop0 := by decide
theorem test_decode_nop1 : decode 0b00010000#8 = .nop1 := by decide
theorem test_decode_nop2 : decode 0b00101010#8 = .nop2 := by decide
theorem test_decode_blink : decode 0b00110101#8 = .blink := by decide
theorem test_decode_stepclk : decode 0b01001111#8 = .stepclk := by decide
theorem test_decode_nop5 : decode 0b01010111#8 = .nop5 := by decide
theorem test_decode_upcnt : decode 0b01100000#8 = .upcnt := by decide
theorem test_decode_dncnt : decode 0b01110000#8 = .dncnt := by decide
theorem test_decode_gray : decode 0b10000000#8 = .gray := by decide
theorem test_decode_graybin : decode 0b10010000#8 = .graybin := by decide
theorem test_decode_and : decode 0b10101110#8 = .and 0b11#2 0b10#2 := by decide
theorem test_decode_or : decode 0b10111001#8 = .or 0b10#2 0b01#2 := by decide
theorem test_decode_not : decode 0b11001010#8 = .not 0b1010#4 := by decide
theorem test_decode_xor : decode 0b11010100#8 = .xor 0b01#2 0b00#2 := by decide
theorem test_decode_srlatch : decode 0b11101110#8 = .srlatch 1#1 0#1 := by decide
theorem test_decode_runlight : decode 0b11110011#8 = .runlight 0b0011#4 := by decide

/-! ### One iteration each (95_test_vectors.md, sections 2.1 to 2.7) -/

/-- D-5 -/
theorem test_nop0_selects_low :
    after (at5 1 0 .two 4 .mid) 0x00 (fun t => (t.out, t.cnt, t.cks, t.tier)) = some (0, 0, .zero, .low) ∧
    eventsOf (at5 1 0 .two 4 .mid) 0x00 = some
      [.outWrite 0, .clockSet .low] := by decide

/-- O-2 -/
theorem test_nop0_held :
    after (at5 0 0 .zero 0 .low) 0x0F (fun t => (t.out, t.cnt, t.cks, t.tier)) = some (0, 0, .zero, .low) ∧
    eventsOf (at5 0 0 .zero 0 .low) 0x0F = some
      [] := by decide

/-- O-3 -/
theorem test_nop1_selects_mid :
    after (at5 7 0 .zero 6 .high) 0x10 (fun t => (t.out, t.cnt, t.cks, t.tier)) = some (0, 0, .zero, .mid) ∧
    eventsOf (at5 7 0 .zero 6 .high) 0x10 = some
      [.outWrite 0, .clockSet .mid] := by decide

/-- D-7 -/
theorem test_nop2_takes_default :
    after (at5 0 0 .zero 1 .mid) 0x20 (fun t => (t.out, t.cnt, t.cks, t.tier)) = some (0, 0, .zero, .high) ∧
    eventsOf (at5 0 0 .zero 1 .mid) 0x20 = some
      [.outWrite 0, .clockSet .high] := by decide

/-- D-8 -/
theorem test_nop2_held :
    after (at5 0 0 .zero 2 .high) 0x2A (fun t => (t.out, t.cnt, t.cks, t.tier)) = some (0, 0, .zero, .high) ∧
    eventsOf (at5 0 0 .zero 2 .high) 0x2A = some
      [] := by decide

/-- O-5 -/
theorem test_nop5_selected :
    after (at5 15 0 .zero 12 .high) 0x57 (fun t => (t.out, t.cnt, t.cks, t.tier)) = some (0, 0, .zero, .high) ∧
    eventsOf (at5 15 0 .zero 12 .high) 0x57 = some
      [.outWrite 0, .clockSet .high] := by decide

/-- B-1 -/
theorem test_blink_selected :
    after State.reset 0x30 (fun t => (t.out, t.cnt, t.cks, t.tier)) = some (1, 0, .zero, .high) ∧
    eventsOf State.reset 0x30 = some
      [.outWrite 0, .clockSet .high, .outWrite 1, .delay 500 .high] := by decide

/-- B-4 -/
theorem test_blink_keeps_high_bits :
    after (at5 33 0 .zero 3 .high) 0x30 (fun t => (t.out, t.cnt, t.cks, t.tier)) = some (32, 0, .zero, .high) ∧
    eventsOf (at5 33 0 .zero 3 .high) 0x30 = some
      [.outWrite 32, .delay 500 .high] := by decide

/-- S-1 -/
theorem test_stepclk_selected :
    after State.reset 0x40 (fun t => (t.out, t.cnt, t.cks, t.tier)) = some (1, 0, .one, .low) ∧
    eventsOf State.reset 0x40 = some
      [.outWrite 0, .clockSet .high, .clockSet .low, .outWrite 1, .delay 500 .low] := by decide

/-- S-3 -/
theorem test_stepclk_to_high :
    after (at5 0 0 .two 4 .mid) 0x40 (fun t => (t.out, t.cnt, t.cks, t.tier)) = some (1, 0, .zero, .high) ∧
    eventsOf (at5 0 0 .two 4 .mid) 0x40 = some
      [.clockSet .high, .outWrite 1, .delay 500 .high] := by decide

/-- U-3 -/
theorem test_upcnt_wraps :
    after (at5 15 0 .zero 6 .high) 0x60 (fun t => (t.out, t.cnt, t.cks, t.tier)) = some (0, 0, .zero, .high) ∧
    eventsOf (at5 15 0 .zero 6 .high) 0x60 = some
      [.outWrite 0, .delay 1000 .high] := by decide

/-- U-5 -/
theorem test_upcnt_clears_high_bits :
    after (at5 48 0 .zero 6 .high) 0x60 (fun t => (t.out, t.cnt, t.cks, t.tier)) = some (1, 0, .zero, .high) ∧
    eventsOf (at5 48 0 .zero 6 .high) 0x60 = some
      [.outWrite 1, .delay 1000 .high] := by decide

/-- D-3 -/
theorem test_dncnt_selected :
    after (at5 5 0 .zero 6 .high) 0x70 (fun t => (t.out, t.cnt, t.cks, t.tier)) = some (15, 0, .zero, .high) ∧
    eventsOf (at5 5 0 .zero 6 .high) 0x70 = some
      [.outWrite 0, .clockSet .high, .outWrite 15, .delay 1000 .high] := by decide

/-- N-5 -/
theorem test_dncnt_masks :
    after (at5 33 0 .zero 7 .high) 0x70 (fun t => (t.out, t.cnt, t.cks, t.tier)) = some (0, 0, .zero, .high) ∧
    eventsOf (at5 33 0 .zero 7 .high) 0x70 = some
      [.outWrite 0, .delay 1000 .high] := by decide

/-- G-2 -/
theorem test_gray_eighth :
    after (at5 4 7 .zero 8 .high) 0x80 (fun t => (t.out, t.cnt, t.cks, t.tier)) = some (12, 8, .zero, .high) ∧
    eventsOf (at5 4 7 .zero 8 .high) 0x80 = some
      [.outWrite 12, .delay 1000 .high] := by decide

/-- G-4 -/
theorem test_gray_wraps :
    after (at5 8 15 .zero 8 .high) 0x80 (fun t => (t.out, t.cnt, t.cks, t.tier)) = some (0, 0, .zero, .high) ∧
    eventsOf (at5 8 15 .zero 8 .high) 0x80 = some
      [.outWrite 0, .delay 1000 .high] := by decide

/-- D-4 -/
theorem test_graybin_selected :
    after (at5 12 8 .zero 8 .high) 0x90 (fun t => (t.out, t.cnt, t.cks, t.tier)) = some (9, 1, .zero, .high) ∧
    eventsOf (at5 12 8 .zero 8 .high) 0x90 = some
      [.outWrite 0, .clockSet .high, .outWrite 9, .delay 1000 .high] := by decide

/-- C-4 -/
theorem test_graybin_mod_eight :
    after (at5 0 15 .zero 9 .high) 0x90 (fun t => (t.out, t.cnt, t.cks, t.tier)) = some (0, 0, .zero, .high) ∧
    eventsOf (at5 0 15 .zero 9 .high) 0x90 = some
      [.outWrite 0, .delay 1000 .high] := by decide

/-- 43_gates.md R150 -/
theorem test_and_of_pairs :
    after (at5 0 0 .zero 10 .high) 0xAE (fun t => (t.out, t.cnt, t.cks, t.tier)) = some (2, 0, .zero, .high) ∧
    eventsOf (at5 0 0 .zero 10 .high) 0xAE = some
      [.outWrite 2] := by decide

/-- 2.4 -/
theorem test_and_no_common_bit :
    after (at5 3 0 .zero 10 .high) 0xA6 (fun t => (t.out, t.cnt, t.cks, t.tier)) = some (0, 0, .zero, .high) ∧
    eventsOf (at5 3 0 .zero 10 .high) 0xA6 = some
      [.outWrite 0] := by decide

/-- D-11 -/
theorem test_or_rewrites :
    after (at5 3 0 .zero 11 .high) 0xB9 (fun t => (t.out, t.cnt, t.cks, t.tier)) = some (3, 0, .zero, .high) ∧
    eventsOf (at5 3 0 .zero 11 .high) 0xB9 = some
      [.outWrite 3] := by decide

/-- 2.4 -/
theorem test_or_of_zero :
    after (at5 0 0 .zero 11 .high) 0xB8 (fun t => (t.out, t.cnt, t.cks, t.tier)) = some (2, 0, .zero, .high) ∧
    eventsOf (at5 0 0 .zero 11 .high) 0xB8 = some
      [.outWrite 2] := by decide

/-- 2.4 -/
theorem test_not_of_zero :
    after (at5 0 0 .zero 12 .high) 0xC0 (fun t => (t.out, t.cnt, t.cks, t.tier)) = some (15, 0, .zero, .high) ∧
    eventsOf (at5 0 0 .zero 12 .high) 0xC0 = some
      [.outWrite 15] := by decide

/-- 2.4 -/
theorem test_not_of_ten :
    after (at5 0 0 .zero 12 .high) 0xCA (fun t => (t.out, t.cnt, t.cks, t.tier)) = some (5, 0, .zero, .high) ∧
    eventsOf (at5 0 0 .zero 12 .high) 0xCA = some
      [.outWrite 5] := by decide

/-- 2.4 -/
theorem test_xor_of_pairs :
    after (at5 0 0 .zero 13 .high) 0xDE (fun t => (t.out, t.cnt, t.cks, t.tier)) = some (1, 0, .zero, .high) ∧
    eventsOf (at5 0 0 .zero 13 .high) 0xDE = some
      [.outWrite 1] := by decide

/-- 2.4 -/
theorem test_xor_of_equal :
    after (at5 3 0 .zero 13 .high) 0xDF (fun t => (t.out, t.cnt, t.cks, t.tier)) = some (0, 0, .zero, .high) ∧
    eventsOf (at5 3 0 .zero 13 .high) 0xDF = some
      [.outWrite 0] := by decide

/-- L-9 -/
theorem test_srlatch_holds :
    after (at5 1 0 .zero 14 .high) 0xEE (fun t => (t.out, t.cnt, t.cks, t.tier)) = some (1, 0, .zero, .high) ∧
    eventsOf (at5 1 0 .zero 14 .high) 0xEE = some
      [.outWrite 1] := by decide

/-- L-10 -/
theorem test_srlatch_clears :
    after (at5 1 0 .zero 14 .high) 0xEC (fun t => (t.out, t.cnt, t.cks, t.tier)) = some (0, 0, .zero, .high) ∧
    eventsOf (at5 1 0 .zero 14 .high) 0xEC = some
      [.outWrite 0] := by decide

/-- R-7 -/
theorem test_runlight_reseeds :
    after (at5 32 0 .zero 15 .high) 0xF4 (fun t => (t.out, t.cnt, t.cks, t.tier)) = some (1, 0, .zero, .high) ∧
    eventsOf (at5 32 0 .zero 15 .high) 0xF4 = some
      [.outWrite 1, .delay 300 .high] := by decide

/-- R-10 -/
theorem test_runlight_drops_top :
    after (at5 48 0 .zero 15 .high) 0xF7 (fun t => (t.out, t.cnt, t.cks, t.tier)) = some (32, 0, .zero, .high) ∧
    eventsOf (at5 48 0 .zero 15 .high) 0xF7 = some
      [.outWrite 32, .delay 800 .high] := by decide

/-- P6 line 1: under LEGACY_FALLTHROUGH code 0 runs STEPCLK's phase 3. -/
theorem test_nop0_legacy :
    eventsOf { State.reset with legacyFallthrough := true } 0x00 =
      some [.outWrite 0, .clockSet .low, .clockSet .low, .outWrite 1, .delay 500 .low] := by decide

/-- 70_reset_and_hazards.md R223: a reset input darkens the LEDs and restores the sentinel. -/
theorem test_reset_input :
    (match step { at5 9 1 .zero 9 .high with stimulus := [.reset] } with
      | .next t => some (t.out, t.cnt, t.psel, t.events)
      | .fault _ => none
      | .refused _ => none) = some (0, 0, .sentinel, []) := by decide

/-- 10_state.md R22, R28, R33 b: what the pins and the clock service show after P3 line 1. -/
theorem test_outside_view :
    after State.reset 0x40 (fun t => (t.led 0, t.led 5, t.oscillator.map Tier.mhz, nominalMs t.log)) =
      some (true, false, some 4, 500) ∧
    State.reset.oscillator = none := by decide

/-- 70_reset_and_hazards.md R220: after a reset mid-run nothing is known of the oscillator; log entry 11. -/
theorem test_oscillator_unknown_after_reset :
    (match step { at5 1 0 .one 4 .low with history := [.clockSet .low], stimulus := [.reset] } with
      | .next t => (t.oscillator, clockSets t.log)
      | .fault _ => (some .low, [])
      | .refused _ => (some .low, [])) = (none, [.low]) := by decide

/-- A table word is decoded by the same decoder (30_encoding.md R80); a longer word is no sample, and no byte holds
none. -/
theorem test_table_words :
    decodeTableWord 8 0xE1 = some (.srlatch 0#1 1#1) ∧ decodeTableWord 16 0xE1 = none ∧
    decodeBytes [] = .error .noSample := ⟨by decide, by decide, rfl⟩

/-! ### Ill-formed trace lines (30_encoding.md R89, R90), one a check -/

theorem test_alias_nop_refused : (TraceLine.mk .nop .absent).problem = some .aliasNop := by decide
theorem test_missing_sec_refused : (TraceLine.mk .runlight .absent).problem = some .operandMissing := by decide
theorem test_pair_on_not_refused : (TraceLine.mk .not (.pair 1#2 2#2)).problem = some .pairNotGate := by decide
theorem test_latch_on_and_refused : (TraceLine.mk .and (.latch 1#1 0#1)).problem = some .latchNotSrlatch := by decide

/-- The example of 30_encoding.md R89: `RUNLIGHT sec=0011 ; W = 0xF3`. -/
theorem test_assemble_runlight : assemble ⟨.runlight, .sec 0b0011#4⟩ = some 0xF3#8 := by decide

/-- `SRLATCH S=1 R=0` is `W = 0xE1` (95_test_vectors.md P4 line 2). -/
theorem test_assemble_srlatch : assemble ⟨.srlatch, .latch 1#1 0#1⟩ = some 0xE1#8 := by decide

/-! ### Witnesses: states and operands that meet the hypotheses of the statements -/

/-- A state in the middle of STEPCLK, about to sample code 4 again. -/
def steppedState : State := { at5 1 0 .one 4 .low with history := [.clockSet .low], stimulus := [.sample 4#4 0#4] }

/-- A state right after reset, about to sample UPCNT. -/
def firstState : State := { State.reset with stimulus := [.sample 6#4 15#4] }

theorem witness_TraceLinesAssemble :
    (TraceLine.mk .and (.pair 3#2 2#2)).wellFormed = true ∧ (TraceLine.mk .upcnt .absent).wellFormed = true ∧
    (TraceLine.mk .nop (.sec 0#4)).wellFormed = false := by decide

theorem witness_StepRunsTheDecodedSample :
    steppedState.stimulus = .sample 4#4 0#4 :: [] ∧ decode (sampleOf 4#4 0#4) = .stepclk := by decide

theorem witness_StepDrawsAFreeSample : State.reset.stimulus = [] := rfl

theorem witness_PlacedWordRunsNext : (0 : Nat) < 256 ∧ (255 : Nat) < 256 := by decide

theorem witness_DetectorActsExactlyOnChange :
    (15#4).setWidth 5 ≠ (PrevSel.code 0#4).bits ∧ (15#4).setWidth 5 = (PrevSel.code 15#4).bits ∧
    State.reset.psel = .sentinel := by decide

theorem witness_TierOfSelectionCode :
    (0#4).toNat = 0 ∧ (1#4).toNat = 1 ∧ 2 ≤ (2#4).toNat ∧ 2 ≤ (15#4).toNat ∧
    (at5 1 0 .zero 6 .high).psel ≠ .code 7#4 ∧ (at5 1 0 .zero 6 .high).tier = tierOf 7#4 := by decide

theorem witness_FirstIterationIsATransition :
    firstState.psel = .sentinel ∧ firstState.stimulus = .sample 6#4 15#4 :: [] := by decide

theorem witness_PreviousSelectionHoldsTheSampledCode :
    firstState.nextInput = .sample 6#4 15#4 ∧ ∃ t, step firstState = .next t := ⟨rfl, _, rfl⟩

theorem witness_ResetInputGivesTheResetState :
    ({ steppedState with stimulus := [.reset] } : State).stimulus = .reset :: [] := rfl

theorem witness_TierAtResetIsNeverRead :
    firstState.psel = .sentinel ∧ firstState.nextInput = .sample 6#4 15#4 := ⟨rfl, rfl⟩

theorem witness_BlinkTogglesBitZero : 1 ≤ (1 : Nat) ∧ 1 ≤ (5 : Nat) := by decide

theorem witness_DncntSubtractsOneModSixteen : (0#6).toNat < 16 ∧ (15#6).toNat < 16 := by decide

theorem witness_Nop5IsANoopUnderBothSettings :
    steppedState.psel ≠ .code 5#4 ∧
    ({ steppedState with stimulus := [.sample 5#4 7#4] } : State).stimulus = .sample 5#4 7#4 :: [] := by decide

theorem witness_NoopsOnlySelectTheTier :
    ∀ c ∈ [0#4, 1#4, 2#4],
      steppedState.legacyFallthrough = false ∧ steppedState.psel ≠ .code c ∧
      ({ steppedState with stimulus := [.sample c 9#4] } : State).stimulus = .sample c 9#4 :: [] := by
  intro c hc
  refine ⟨rfl, ?_, rfl⟩
  revert c
  decide

theorem witness_NoopsUnderLegacyFallthrough :
    ({ steppedState with legacyFallthrough := true } : State).legacyFallthrough = true := rfl

theorem witness_LegacyFallthroughRunsSteppedClock :
    ({ steppedState with legacyFallthrough := true } : State).legacyFallthrough = true ∧
    steppedState.legacyFallthrough = false := ⟨rfl, rfl⟩

theorem witness_StepclkSetsTierAdvancesAndToggles :
    (at5 0 0 .zero 4 .high).cks = .zero ∧ steppedState.cks = .one ∧ (at5 0 0 .two 4 .mid).cks = .two := by decide

theorem witness_GrayTableProperties : (0#4).toNat < 8 ∧ (7#4).toNat < 8 := by decide

theorem witness_DelayTableEntries : (0#4).toNat < (1#4).toNat ∧ (14#4).toNat < (15#4).toNat := by decide

theorem steppedState_legal : RegistersLegal steppedState := by
  constructor <;> simp [steppedState, at5, stepsClock, outValues, State.reset, Config.legacyDefault]
  exact ⟨.zero, rfl, rfl⟩

theorem witness_LegalRegistersAreKept : RegistersLegal steppedState ∧ ∃ t, step steppedState = .next t :=
  ⟨steppedState_legal, _, rfl⟩

theorem steppedState_coherent : ClockCoherent steppedState :=
  ⟨fun _ => by decide, by decide⟩

theorem witness_ClockCoherenceIsKept : ClockCoherent steppedState ∧ ∃ t, step steppedState = .next t :=
  ⟨steppedState_coherent, _, rfl⟩

/-- A state that holds code `held` and is about to sample `sel` and `sec`, under either setting of the parameter. -/
def aboutToSample (legacy : Bool) (held sel : Code) (sec : Sec) : State :=
  { at5 0 0 .zero held .high with stimulus := [.sample sel sec], legacyFallthrough := legacy }

/-- Such a state takes the sample and answers a next state, whatever the codes and the setting. -/
theorem aboutToSample_steps (legacy : Bool) (held sel : Code) (sec : Sec) :
    (aboutToSample legacy held sel sec).nextInput = .sample sel sec ∧
    ∃ t, step (aboutToSample legacy held sel sec) = .next t := by
  refine ⟨rfl, ?_⟩
  rcases step_by_input (aboutToSample legacy held sel sec) with ⟨sel', sec', -, h⟩ | ⟨-, h⟩
  · rw [h]
    cases decode (sampleOf sel' sec') <;> exact ⟨_, rfl⟩
  · exact ⟨_, h⟩

theorem witness_IterationEventsInOrder :
    ∀ (legacy : Bool) (held sel : Code), (aboutToSample legacy held sel 15#4).nextInput = .sample sel 15#4 ∧
      ∃ t, step (aboutToSample legacy held sel 15#4) = .next t :=
  fun legacy held sel => aboutToSample_steps legacy held sel 15#4

theorem witness_LedChangesOnlyByOutWrite :
    ∀ (legacy : Bool) (held sel : Code), (aboutToSample legacy held sel 3#4).nextInput = .sample sel 3#4 ∧
      ∃ t, step (aboutToSample legacy held sel 3#4) = .next t :=
  fun legacy held sel => aboutToSample_steps legacy held sel 3#4

theorem witness_NominalDelayPerExperiment :
    ∀ (legacy : Bool) (held sel : Code) (sec : Sec), (aboutToSample legacy held sel sec).nextInput = .sample sel sec ∧
      ∃ t, step (aboutToSample legacy held sel sec) = .next t :=
  aboutToSample_steps

theorem witness_ExperimentFrame :
    (∃ t, exec (.runlight 3#4) steppedState = .next t) ∧ stepsClock false (Instr.runlight 3#4).code = false ∧
    (∃ t, exec .nop2 steppedState = .next t) ∧ steppedState.legacyFallthrough = false :=
  ⟨⟨_, rfl⟩, rfl, ⟨_, rfl⟩, rfl⟩

theorem witness_StepFilesEventsAndKeepsTheParameter : ∃ t, step steppedState = .next t := ⟨_, rfl⟩

theorem witness_IgnoredBitsHaveNoEffect :
    0b0110#4 &&& (decode (sampleOf 14#4 0b0110#4)).secMask = 0b1010#4 &&& (decode (sampleOf 14#4 0b0110#4)).secMask ∧
    0b0000#4 &&& (decode (sampleOf 9#4 0b0000#4)).secMask = 0b1111#4 &&& (decode (sampleOf 9#4 0b0000#4)).secMask := by
  decide

theorem witness_TransitionForgetsThePast :
    ∃ s s' : State, s.nextInput = .sample 6#4 0#4 ∧ s'.nextInput = .sample 6#4 0#4 ∧ s.psel ≠ .code 6#4 ∧
      s'.psel ≠ .code 6#4 ∧ s.legacyFallthrough = s'.legacyFallthrough ∧ s.out ≠ s'.out ∧
      (∃ t, step s = .next t) ∧ ∃ t', step s' = .next t' :=
  ⟨{ at5 8 15 .zero 8 .high with stimulus := [.sample 6#4 0#4] },
    { State.reset with stimulus := [.sample 6#4 0#4] }, rfl, rfl, by decide, by decide, rfl, by decide,
    ⟨_, rfl⟩, ⟨_, rfl⟩⟩

theorem witness_FirstResultAfterSelection :
    ∀ c ∈ [0#4, 1#4, 2#4, 3#4, 4#4, 5#4, 6#4, 7#4, 8#4, 9#4, 10#4, 11#4, 12#4, 13#4, 14#4, 15#4],
      State.reset.psel ≠ .code c ∧
      ({ State.reset with stimulus := [.sample c 1#4] } : State).stimulus = .sample c 1#4 :: [] := by
  intro c _
  exact ⟨by simp [State.reset], rfl⟩

/-- A state about to sample code `c` twice, with different `sec`, and then code 0. -/
def aboutToHold (c : Code) : State :=
  { State.reset with stimulus := [.sample c 0#4, .sample c 15#4, .sample 0#4 0#4] }

theorem aboutToHold_meets (c : Code) :
    ([0#4, 15#4] : List Sec) ≠ [] ∧ State.reset.psel ≠ .code c ∧
    (aboutToHold c).stimulus = ([0#4, 15#4] : List Sec).map (Input.sample c) ++ [.sample 0#4 0#4] :=
  ⟨by simp, by simp [State.reset], rfl⟩

theorem witness_HeldBinaryCountersCount :
    ∀ c ∈ [6#4, 7#4], ([0#4, 15#4] : List Sec) ≠ [] ∧ State.reset.psel ≠ .code c ∧
      (aboutToHold c).stimulus = ([0#4, 15#4] : List Sec).map (Input.sample c) ++ [.sample 0#4 0#4] :=
  fun c _ => aboutToHold_meets c

theorem witness_HeldGrayCountersWalkTheTable :
    ∀ c ∈ [8#4, 9#4], ([0#4, 15#4] : List Sec) ≠ [] ∧ State.reset.psel ≠ .code c ∧
      (aboutToHold c).stimulus = ([0#4, 15#4] : List Sec).map (Input.sample c) ++ [.sample 0#4 0#4] :=
  fun c _ => aboutToHold_meets c

theorem witness_HeldTogglesAlternate :
    ∀ c ∈ [3#4, 4#4], ([0#4, 15#4] : List Sec) ≠ [] ∧ State.reset.psel ≠ .code c ∧
      (aboutToHold c).stimulus = ([0#4, 15#4] : List Sec).map (Input.sample c) ++ [.sample 0#4 0#4] :=
  fun c _ => aboutToHold_meets c

theorem witness_HeldRunningLightWalks :
    ∀ c ∈ [15#4], ([0#4, 15#4] : List Sec) ≠ [] ∧ State.reset.psel ≠ .code c ∧
      (aboutToHold c).stimulus = ([0#4, 15#4] : List Sec).map (Input.sample c) ++ [.sample 0#4 0#4] :=
  fun c _ => aboutToHold_meets c

end Sys2Proof.Tests
end

section
/-! The tables of 20_memory.md. -/
namespace Sys2Proof.Proofs

open Sys2Proof.Machine

/-- A table read (20_memory.md R54) is the lookup in the table's entries written out as numbers: the 4-bit index is
always in range. -/
theorem entries_getElem?_eq_romRead {n : Nat} (T : Vector (BitVec n) 16) (i : BitVec 4) :
    (T.toList.map BitVec.toNat)[i.toNat]? = some (romRead T i).toNat := by
  have inRange : i.toNat < T.toList.length := by
    rw [Vector.length_toList]
    exact i.isLt
  rw [List.getElem?_map, List.getElem?_eq_getElem inRange, Vector.getElem_toList]
  rfl

theorem grayTab_entries :
    grayTab.toList.map BitVec.toNat = [0, 1, 3, 2, 6, 7, 5, 4, 12, 13, 15, 14, 10, 11, 9, 8] := by
  decide

/-- Settles O31: R51's list is the table's entries as numbers, and a read looks its index up in them. -/
theorem grayTableEntries : Obligations.GrayTableEntries := by
  intro i
  rw [← grayTab_entries]
  exact entries_getElem?_eq_romRead grayTab i

end Sys2Proof.Proofs
end

section
/-! The opcode of a sample: the code map of 30_encoding.md R81 and R84. -/
namespace Sys2Proof.Proofs

open Sys2Proof.Machine

@[simp] theorem selOf_sampleOf (sel : Code) (sec : Sec) : selOf (sampleOf sel sec) = sel :=
  BitVec.extractLsb'_append_eq_left

theorem selOf_getLsbD (w : Sample) {k : Nat} (hk : k < 4) : (selOf w).getLsbD k = w.getLsbD (4 + k) := by
  simp [selOf, hk]

/-- `sel` is known from the four bits of the word that the decoder looks at, most significant first. -/
theorem selOf_eq_of_bits {w : Sample} {c : Code} (h7 : w.getLsbD 7 = c.getLsbD 3) (h6 : w.getLsbD 6 = c.getLsbD 2)
    (h5 : w.getLsbD 5 = c.getLsbD 1) (h4 : w.getLsbD 4 = c.getLsbD 0) : selOf w = c := by
  refine BitVec.eq_of_getLsbD_eq fun k hk => ?_
  rw [selOf_getLsbD w hk]
  match k, hk with
  | 0, _ => exact h4
  | 1, _ => exact h5
  | 2, _ => exact h6
  | 3, _ => exact h7

/-- Each row of the code map sits at its own code. -/
@[simp] theorem decode_code (w : Sample) : (decode w).code = selOf w := by
  unfold decode
  split
  all_goals
    next h7 h6 h5 h4 =>
      dsimp only [Instr.code]
      exact (selOf_eq_of_bits h7 h6 h5 h4).symm

@[simp] theorem mnemonic_code (i : Instr) : i.mnemonic.code = some i.code := by
  cases i <;> rfl

/-- The code map read backwards: the code alone, with `sec` at 0 whatever the operands are, gives the name. -/
theorem mnemonic_eq_decode_code (i : Instr) : i.mnemonic = (decode (sampleOf i.code 0#4)).mnemonic := by
  cases i
  all_goals
    dsimp only [Instr.mnemonic, Instr.code]
    decide

theorem code_eq_iff_mnemonic_eq (i j : Instr) : i.code = j.code ↔ i.mnemonic = j.mnemonic := by
  constructor
  · intro sameCode
    rw [mnemonic_eq_decode_code i, mnemonic_eq_decode_code j, sameCode]
  · intro sameName
    have sameCode : some i.code = some j.code := by rw [← mnemonic_code, ← mnemonic_code, sameName]
    exact Option.some.inj sameCode

/-- Settles O4: the decoded code is `sel`, names and codes determine each other, and two samples with one `sel` have
one code. -/
theorem selIsTheWholeOpcode : Obligations.SelIsTheWholeOpcode := by
  refine ⟨decode_code, code_eq_iff_mnemonic_eq, fun sel sec sec' => ?_⟩
  rw [← code_eq_iff_mnemonic_eq, decode_code, decode_code, selOf_sampleOf, selOf_sampleOf]

end Sys2Proof.Proofs
end

section
/-! The selection-change detector and its tier function: 40_dispatch.md R103 to R105. -/
namespace Sys2Proof.Proofs

open Sys2Proof.Machine

/-- The detector's 5-bit comparison (40_dispatch.md R103) finds no difference only when PSEL holds the code. -/
theorem setWidth_eq_bits_iff (sel : Code) (p : PrevSel) : sel.setWidth 5 = p.bits ↔ p = .code sel := by
  constructor
  · intro sameBits
    exact bits_injective (q := .code sel) sameBits.symm
  · rintro rfl
    rfl

theorem detect_of_psel_ne {s : State} {sel : Code} (changed : s.psel ≠ .code sel) :
    s.detect sel = s.transition sel := by
  rcases detect_cases s sel with ⟨-, acts⟩ | ⟨held, -⟩
  · exact acts
  · exact absurd held changed

theorem detect_of_psel_eq {s : State} {sel : Code} (held : s.psel = .code sel) : s.detect sel = s := by
  rcases detect_cases s sel with ⟨changed, -⟩ | ⟨-, idle⟩
  · exact absurd held changed
  · exact idle

/-- The whole state after the actions of 40_dispatch.md R104, what they leave unchanged included. -/
theorem transition_eq (s : State) (sel : Code) :
    s.transition sel = { s with psel := .code sel, out := 0#6, cnt := 0#4, cks := .zero, tier := tierOf sel,
                                events := s.events ++ [.outWrite 0#6, .clockSet (tierOf sel)] } := by
  rw [← State.transition_events]
  rfl

/-- Settles O11: by the 5-bit comparison a changed code is a code that PSEL does not hold, and the sentinel holds
none. -/
theorem detectorActsExactlyOnChange : Obligations.DetectorActsExactlyOnChange := by
  refine ⟨fun s sel changed => ?_, fun s sel same => ?_, fun s sel atSentinel => ?_⟩
  · rw [detect_of_psel_ne (mt (setWidth_eq_bits_iff sel s.psel).mpr changed), transition_eq]
  · exact detect_of_psel_eq ((setWidth_eq_bits_iff sel s.psel).mp same)
  · rw [ne_eq, setWidth_eq_bits_iff, atSentinel]
    exact PrevSel.noConfusion

/-- Every transition commands the clock once, whatever the tier was before it (40_dispatch.md R105). -/
theorem clockSets_detect_of_psel_ne {s : State} {sel : Code} (changed : s.psel ≠ .code sel) :
    clockSets (s.detect sel).events = clockSets s.events ++ [tierOf sel] := by
  rw [detect_of_psel_ne changed, State.transition_events, clockSets_append]
  rfl

theorem tierOf_of_two_le {sel : Code} (h : 2 ≤ sel.toNat) : tierOf sel = .high := by
  rcases tierOf_cases sel with ⟨rfl, -⟩ | ⟨rfl, -⟩ | ⟨-, -, high⟩
  · exact absurd h (by decide)
  · exact absurd h (by decide)
  · exact high

/-- Settles O12: codes 0 and 1 have their own tier, every code above them the high one, and a transition issues the
command whether or not the tier changes. -/
theorem tierOfSelectionCode : Obligations.TierOfSelectionCode := by
  refine ⟨fun sel h0 => ?_, fun sel h1 => ?_, fun sel h2 => tierOf_of_two_le h2,
    fun s sel changed _ => clockSets_detect_of_psel_ne changed⟩
  · obtain rfl : sel = 0#4 := BitVec.eq_of_toNat_eq h0
    rfl
  · obtain rfl : sel = 1#4 := BitVec.eq_of_toNat_eq h1
    rfl

end Sys2Proof.Proofs
end

section
/-! The experiments without operands, and BLINK: 41_clock_blink.md R121. -/
namespace Sys2Proof.Proofs

open Sys2Proof.Machine

/-- An experiment that reads no bit of `sec` is what its code decodes to, whatever `sec` is (30_encoding.md R83). -/
theorem decode_sampleOf_code {i : Instr} (noOperand : i.secMask = 0#4) (sec : Sec) :
    decode (sampleOf i.code sec) = i := by
  cases i
  case and | or | not | xor | srlatch | runlight => simp [Instr.secMask] at noOperand
  all_goals
    dsimp only [Instr.code]
    revert sec
    decide

/-- The whole state after phases 3 and 4 of an experiment that writes OUT and then waits (40_dispatch.md R109, R110). -/
theorem writeOut_requestDelay_eq (s : State) (v : Led) (ms : Millis) :
    (s.writeOut v).requestDelay ms =
      { s with out := v, events := s.events ++ [.outWrite v, .delay ms s.tier] } := by
  have inOrder : ((s.writeOut v).requestDelay ms).events = s.events ++ [.outWrite v, .delay ms s.tier] := by
    rw [State.requestDelay_events, State.writeOut_events, State.writeOut_tier, List.append_assoc,
      List.singleton_append]
  rw [← inOrder]
  rfl

theorem exec_blink (s : State) :
    exec .blink s = .next ((s.writeOut (toggleBit0 s.out)).requestDelay 500#13) := rfl

/-- Settles O22: the value written is OUT with bit 0 toggled, and the rest of the state is that of a write and a
delay. -/
theorem blinkTogglesBitZero : Obligations.BlinkTogglesBitZero := by
  refine ⟨decode_sampleOf_code (i := .blink) rfl, fun s => ⟨toggleBit0 s.out, ?_, fun k hk => ?_, ?_⟩⟩
  · rw [toggleBit0_getLsbD, if_pos rfl]
  · rw [toggleBit0_getLsbD, if_neg (Nat.ne_of_gt hk)]
  · rw [exec_blink, writeOut_requestDelay_eq]

end Sys2Proof.Proofs
end

section
/-! The counters: 42_counters.md R130, R131 and R133. -/
namespace Sys2Proof.Proofs

open Sys2Proof.Machine

theorem exec_upcnt (s : State) :
    exec .upcnt s = .next ((s.writeOut (upMod16 s.out)).requestDelay 1000#13) := rfl

theorem exec_dncnt (s : State) :
    exec .dncnt s = .next ((s.writeOut (downMod16 s.out)).requestDelay 1000#13) := rfl

/-- The table is read with the count after it advanced (42_counters.md R133, decision D18). -/
theorem exec_graybin (s : State) :
    exec .graybin s = .next (((s.writeCnt (cntNext s.cnt 8)).writeOut
      (grayBeside (romRead grayTab (cntNext s.cnt 8)) (cntNext s.cnt 8))).requestDelay 1000#13) := rfl

/-- Settles O23: `upMod16_toNat` for the value, and the rest of the state is that of a write and a delay. -/
theorem upcntAddsOneModSixteen : Obligations.UpcntAddsOneModSixteen := by
  refine ⟨decode_sampleOf_code (i := .upcnt) rfl, fun s => ⟨upMod16 s.out, upMod16_toNat s.out, ?_⟩⟩
  rw [exec_upcnt, writeOut_requestDelay_eq]

/-- Modulo 16 the difference with 1 is the sum with 15, so 0 goes to 15 (42_counters.md R131). -/
theorem downMod16_toNat_eq_sub (v : Led) : ((downMod16 v).toNat : Int) = ((v.toNat : Int) - 1) % 16 := by
  rw [downMod16_toNat]
  omega

theorem downMod16_upMod16 {v : Led} (hv : v.toNat < 16) : downMod16 (upMod16 v) = v := by
  refine BitVec.eq_of_toNat_eq ?_
  rw [downMod16_toNat, upMod16_toNat]
  omega

theorem upMod16_downMod16 {v : Led} (hv : v.toNat < 16) : upMod16 (downMod16 v) = v := by
  refine BitVec.eq_of_toNat_eq ?_
  rw [upMod16_toNat, downMod16_toNat]
  omega

/-- Settles O24: `downMod16_toNat_eq_sub` for the value, a write and a delay for the rest of the state, and the two
counts are inverse to each other on four bits. -/
theorem dncntSubtractsOneModSixteen : Obligations.DncntSubtractsOneModSixteen := by
  refine ⟨decode_sampleOf_code (i := .dncnt) rfl,
    fun s => ⟨downMod16 s.out, downMod16_toNat_eq_sub s.out, ?_⟩,
    fun v hv => ⟨downMod16_upMod16 hv, upMod16_downMod16 hv⟩⟩
  rw [exec_dncnt, writeOut_requestDelay_eq]

/-- The Gray code of a 3-bit count has 3 bits. -/
theorem grayTab_read_lt_eight {c : BitVec 4} (hc : c.toNat < 8) : (romRead grayTab c).toNat < 8 := by
  have shifted : c.toNat >>> 1 < 2 ^ 3 := Nat.lt_of_le_of_lt (Nat.shiftRight_le c.toNat 1) hc
  rw [grayTab_read, BitVec.toNat_xor, BitVec.toNat_ushiftRight]
  exact Nat.xor_lt_two_pow hc shifted

/-- Two 3-bit values fit in the 6 bits of OUT: the sum of 42_counters.md R133 is not truncated. -/
theorem grayBeside_toNat_of_lt {g c : BitVec 4} (hg : g.toNat < 8) (hc : c.toNat < 8) :
    (grayBeside g c).toNat = g.toNat * 8 + c.toNat := by
  rw [grayBeside_toNat]
  omega

/-- The shifted sum of two 3-bit values is the one written beside the other. -/
theorem grayBeside_eq_append {g c : BitVec 4} (hg : g.toNat < 8) (hc : c.toNat < 8) :
    grayBeside g c = g.extractLsb' 0 3 ++ c.extractLsb' 0 3 := by
  have low3 {x : BitVec 4} (hx : x.toNat < 8) : (x.extractLsb' 0 3).toNat = x.toNat := by
    rw [BitVec.extractLsb'_toNat, Nat.shiftRight_zero, Nat.mod_eq_of_lt hx]
  refine BitVec.eq_of_toNat_eq ?_
  rw [grayBeside_toNat_of_lt hg hc, BitVec.toNat_append, low3 hg, low3 hc,
    ← Nat.shiftLeft_add_eq_or_of_lt (b := c.toNat) (i := 3) hc, Nat.shiftLeft_eq]

/-- The whole state after a Gray counter's phases 3 and 4: CNT, then OUT, then the delay (42_counters.md R132, R133). -/
theorem writeCnt_writeOut_requestDelay_eq (s : State) (c : BitVec 4) (v : Led) (ms : Millis) :
    ((s.writeCnt c).writeOut v).requestDelay ms =
      { s with cnt := c, out := v, events := s.events ++ [.outWrite v, .delay ms s.tier] } := by
  rw [writeOut_requestDelay_eq, State.writeCnt_events, State.writeCnt_tier]
  rfl

/-- Settles O26: the new count is below 8, so its Gray code is too, and the sum of the two is the one beside the
other. -/
theorem graybinShowsGrayBesideCount : Obligations.GraybinShowsGrayBesideCount := by
  refine ⟨decode_sampleOf_code (i := .graybin) rfl, fun s => ?_⟩
  have advanced : (cntNext s.cnt 8).toNat = (s.cnt.toNat + 1) % 8 :=
    cntNext_toNat s.cnt (by decide) (by decide)
  have count3 : (cntNext s.cnt 8).toNat < 8 := advanced ▸ Nat.mod_lt _ (by decide)
  have gray3 := grayTab_read_lt_eight count3
  refine ⟨cntNext s.cnt 8, grayBeside (romRead grayTab (cntNext s.cnt 8)) (cntNext s.cnt 8), advanced,
    grayBeside_toNat_of_lt gray3 count3, grayBeside_eq_append gray3 count3, ?_⟩
  rw [exec_graybin, writeCnt_writeOut_requestDelay_eq]

end Sys2Proof.Proofs
end

section
/-! The gates: 43_gates.md R150 to R153. -/
namespace Sys2Proof.Proofs

open Sys2Proof.Machine

@[simp] theorem secOf_sampleOf (sel : Code) (sec : Sec) : secOf (sampleOf sel sec) = sec :=
  BitVec.extractLsb'_append_eq_right

/-- The bits above `sec` are those of `sel` (30_encoding.md R80). -/
theorem sampleOf_getLsbD_add_four (sel : Code) (sec : Sec) (k : Nat) :
    (sampleOf sel sec).getLsbD (k + 4) = sel.getLsbD k := by
  rw [sampleOf, BitVec.getLsbD_append, if_neg (by omega), Nat.add_sub_cancel]

/-! ### The rows of the code map that hold a gate (30_encoding.md R84) -/

theorem decode_sampleOf_and (sec : Sec) : decode (sampleOf 10#4 sec) = .and (high2 sec) (low2 sec) := by
  simp only [decode, sampleOf_getLsbD_add_four, secOf_sampleOf]
  rfl

theorem decode_sampleOf_or (sec : Sec) : decode (sampleOf 11#4 sec) = .or (high2 sec) (low2 sec) := by
  simp only [decode, sampleOf_getLsbD_add_four, secOf_sampleOf]
  rfl

theorem decode_sampleOf_not (sec : Sec) : decode (sampleOf 12#4 sec) = .not (whole sec) := by
  simp only [decode, sampleOf_getLsbD_add_four, secOf_sampleOf]
  rfl

theorem decode_sampleOf_xor (sec : Sec) : decode (sampleOf 13#4 sec) = .xor (high2 sec) (low2 sec) := by
  simp only [decode, sampleOf_getLsbD_add_four, secOf_sampleOf]
  rfl

/-! ### Their phases 3 and 4 -/

theorem exec_and (a b : BitVec 2) (s : State) : exec (.and a b) s = .next (s.writeOut ((a &&& b).setWidth 6)) := rfl

theorem exec_or (a b : BitVec 2) (s : State) : exec (.or a b) s = .next (s.writeOut ((a ||| b).setWidth 6)) := rfl

theorem exec_not (x : BitVec 4) (s : State) : exec (.not x) s = .next (s.writeOut ((~~~x).setWidth 6)) := rfl

theorem exec_xor (a b : BitVec 2) (s : State) : exec (.xor a b) s = .next (s.writeOut ((a ^^^ b).setWidth 6)) := rfl

/-- The whole state after the write of an experiment without a delay (40_dispatch.md R109). -/
theorem writeOut_eq (s : State) (v : Led) :
    s.writeOut v = { s with out := v, events := s.events ++ [.outWrite v] } := rfl

/-- Extended with zeros to OUT's width, a result keeps every bit, and the bits above it are 0. -/
theorem getLsbD_setWidth_six {n : Nat} (hn : n ≤ 6) (x : BitVec n) (k : Nat) :
    (x.setWidth 6).getLsbD k = x.getLsbD k := by
  rw [BitVec.getLsbD_setWidth, Bool.and_eq_right_iff_imp, decide_eq_true_iff]
  intro hset
  exact (BitVec.lt_of_getLsbD hset).trans_le hn

/-- Settles O27: the extension of the 2-bit result keeps its bits, and the rest of the state is that of a write. -/
theorem pairGatesCombineHighAndLow : Obligations.PairGatesCombineHighAndLow := by
  refine ⟨fun sec => ⟨decode_sampleOf_and sec, decode_sampleOf_or sec, decode_sampleOf_xor sec⟩,
    fun a b s => ⟨⟨(a &&& b).setWidth 6, fun k => ?_, ?_⟩, ⟨(a ||| b).setWidth 6, fun k => ?_, ?_⟩,
      ⟨(a ^^^ b).setWidth 6, fun k => ?_, ?_⟩⟩⟩
  · rw [getLsbD_setWidth_six (by decide), BitVec.getLsbD_and]
  · rw [exec_and, writeOut_eq]
  · rw [getLsbD_setWidth_six (by decide), BitVec.getLsbD_or]
  · rw [exec_or, writeOut_eq]
  · rw [getLsbD_setWidth_six (by decide), BitVec.getLsbD_xor, Bool.bne_eq_xor]
  · rw [exec_xor, writeOut_eq]

/-- The complement of four bits is the difference from 15, and the extension to OUT's width keeps it
(43_gates.md R152). -/
theorem not_setWidth_six_toNat (x : BitVec 4) : ((~~~x).setWidth 6).toNat = 15 - x.toNat := by
  rw [BitVec.toNat_setWidth_of_le (by decide), BitVec.toNat_not]

/-- Settles O28: `not_setWidth_six_toNat` for the value, and the rest of the state is that of a write. -/
theorem notComplementsFourBits : Obligations.NotComplementsFourBits := by
  refine ⟨decode_sampleOf_not, fun x s => ⟨(~~~x).setWidth 6, not_setWidth_six_toNat x, ?_⟩⟩
  rw [exec_not, writeOut_eq]

end Sys2Proof.Proofs
end

section
/-! The running light: 45_running_light.md R170. -/
namespace Sys2Proof.Proofs

open Sys2Proof.Machine

/-- The row of the code map that holds the running light (30_encoding.md R84). -/
theorem decode_sampleOf_runlight (sec : Sec) : decode (sampleOf 15#4 sec) = .runlight (whole sec) := by
  simp only [decode, sampleOf_getLsbD_add_four, secOf_sampleOf]
  rfl

theorem exec_runlight (k : BitVec 4) (s : State) :
    exec (.runlight k) s = .next ((s.writeOut (walkLight s.out)).requestDelay (romRead delayTab k)) := rfl

/-- Settles O30: `walkLight_toNat` for the value, and the rest of the state is that of a write and a delay. -/
theorem runlightShiftsAndReseeds : Obligations.RunlightShiftsAndReseeds := by
  refine ⟨decode_sampleOf_runlight, fun k s => ⟨walkLight s.out, walkLight_toNat s.out, ?_⟩⟩
  rw [exec_runlight, writeOut_requestDelay_eq]

end Sys2Proof.Proofs
end

section
/-! The iteration that selects an experiment: 40_dispatch.md R101 and R104. -/
namespace Sys2Proof.Proofs

open Sys2Proof.Machine

theorem step_of_sample {s : State} {sel : Code} {sec : Sec} {rest : List Input}
    (next : s.stimulus = .sample sel sec :: rest) :
    step s = exec (decode (sampleOf sel sec)) (s.beginIteration.detect sel) := by
  rw [step, nextInput_cons next]

/-- The whole state after an input was taken from the stimulus: no free sample is drawn. -/
theorem beginIteration_eq {s : State} {i : Input} {rest : List Input} (next : s.stimulus = i :: rest) :
    s.beginIteration = { s with events := [], history := s.history ++ s.events, stimulus := rest } := by
  rw [State.beginIteration, next, List.tail_cons, List.isEmpty_cons, if_neg Bool.false_ne_true]

/-- A newly selected experiment runs on the zeroed state at its own tier, after the detector's two events. -/
theorem step_of_selection {s : State} {sel : Code} {sec : Sec} {rest : List Input}
    (changed : s.psel ≠ .code sel) (next : s.stimulus = .sample sel sec :: rest) :
    step s = exec (decode (sampleOf sel sec))
      { s with out := 0#6, cnt := 0#4, cks := .zero, psel := .code sel, tier := tierOf sel,
               events := [.outWrite 0#6, .clockSet (tierOf sel)], history := s.history ++ s.events,
               stimulus := rest } := by
  have changedAtStart : s.beginIteration.psel ≠ .code sel := changed
  rw [step_of_sample next, detect_of_psel_ne changedAtStart, transition_eq, beginIteration_eq next,
    List.nil_append]

end Sys2Proof.Proofs
end

section
/-! The no-ops: 46_noop.md R180 to R183. -/
namespace Sys2Proof.Proofs

open Sys2Proof.Machine

theorem tierOf_eq_low_iff (c : Code) : tierOf c = .low ↔ c = 0#4 := by
  rcases tierOf_cases c with ⟨rfl, low⟩ | ⟨rfl, mid⟩ | ⟨ne0, -, high⟩
  · simp [low]
  · simp [mid]
  · simp [high, ne0]

theorem tierOf_eq_mid_iff (c : Code) : tierOf c = .mid ↔ c = 1#4 := by
  rcases tierOf_cases c with ⟨rfl, low⟩ | ⟨rfl, mid⟩ | ⟨-, ne1, high⟩
  · simp [low]
  · simp [mid]
  · simp [high, ne1]

theorem noopOrFallthrough_of_default {s : State} (byDefault : s.legacyFallthrough = false) :
    s.noopOrFallthrough = s := by
  rcases noopOrFallthrough_cases s with ⟨-, idle⟩ | ⟨legacy, -⟩
  · exact idle
  · exact absurd legacy (Bool.eq_false_iff.mp byDefault)

theorem noopOrFallthrough_of_legacy {s : State} (legacy : s.legacyFallthrough = true) :
    s.noopOrFallthrough = s.stepClock := by
  rcases noopOrFallthrough_cases s with ⟨byDefault, -⟩ | ⟨-, steps⟩
  · exact absurd legacy (Bool.eq_false_iff.mp byDefault)
  · exact steps

theorem exec_stepclk (s : State) : exec .stepclk s = .next s.stepClock := rfl

theorem exec_nop5 (s : State) : exec .nop5 s = .next s := rfl

/-- What NOP0, NOP1 and NOP2 share, each with its own code and tier. -/
theorem fallthroughNoop_facts {i : Instr} {c : Code} {u : Tier}
    (row : (i, c, u) ∈ [(.nop0, 0#4, .low), (.nop1, 1#4, .mid), (.nop2, 2#4, .high)]) :
    (∀ sec : Sec, decode (sampleOf c sec) = i) ∧ tierOf c = u ∧
    ∀ s : State, exec i s = .next s.noopOrFallthrough := by
  simp only [List.mem_cons, List.not_mem_nil, or_false, Prod.mk.injEq] at row
  obtain ⟨rfl, rfl, rfl⟩ | ⟨rfl, rfl, rfl⟩ | ⟨rfl, rfl, rfl⟩ := row
  · exact ⟨decode_sampleOf_code (i := .nop0) rfl, rfl, fun _ => rfl⟩
  · exact ⟨decode_sampleOf_code (i := .nop1) rfl, rfl, fun _ => rfl⟩
  · exact ⟨decode_sampleOf_code (i := .nop2) rfl, rfl, fun _ => rfl⟩

/-- Settles O18: the three rows share `noopOrFallthrough` as phase 3, and after a selection it leaves the state as the
detector made it. -/
theorem noopsOnlySelectTheTier : Obligations.NoopsOnlySelectTheTier := by
  refine ⟨fun i c u row => ?_, tierOf_eq_low_iff, tierOf_eq_mid_iff⟩
  obtain ⟨decodes, rfl, runs⟩ := fallthroughNoop_facts row
  have idle (s : State) (byDefault : s.legacyFallthrough = false) : exec i s = .next s := by
    rw [runs, noopOrFallthrough_of_default byDefault]
  refine ⟨decodes, idle, fun s legacy => ⟨s.stepClock, exec_stepclk s, ?_⟩,
    fun s sec rest byDefault changed next => ?_⟩
  · rw [runs, noopOrFallthrough_of_legacy legacy]
  · rw [step_of_selection changed next, decodes]
    exact idle _ byDefault

/-- Settles O19: phase 3 of NOP5 is empty, so a selection leaves the state as the detector made it. -/
theorem nop5IsANoopUnderBothSettings : Obligations.Nop5IsANoopUnderBothSettings := by
  have decodes : ∀ sec : Sec, decode (sampleOf 5#4 sec) = .nop5 := decode_sampleOf_code (i := .nop5) rfl
  have high : tierOf 5#4 = .high := tierOf_of_two_le (by decide)
  refine ⟨decodes, exec_nop5, fun s sec rest changed next => ?_⟩
  rw [step_of_selection changed next, decodes, exec_nop5, high]

end Sys2Proof.Proofs
end

section
/-! Totality of the step: 60_exceptions.md R190. -/
namespace Sys2Proof.Proofs

open Sys2Proof.Machine

/-- No row of the Behavior Table stops the machine: each is one update of the state. -/
theorem exec_completes (i : Instr) (s : State) : Completes (exec i s) := by
  cases i with
  | nop0 | nop1 | nop2 | blink | stepclk | nop5 | upcnt | dncnt | gray | graybin
  | and | or | not | xor | srlatch | runlight => exact ⟨_, rfl⟩

/-- Settles O34: a sample runs the experiment it decodes to, which completes whatever state the detector leaves, and a
reset input answers the reset state. -/
theorem everyStepAnswersNext : Obligations.EveryStepAnswersNext := by
  refine ⟨nofun, fun s => ?_⟩
  rcases step_by_input s with ⟨sel, sec, -, runs⟩ | ⟨-, resets⟩
  · rw [runs]
    exact exec_completes _ _
  · exact ⟨_, resets⟩

end Sys2Proof.Proofs
end

section
/-! The first iteration after reset: 70_reset_and_hazards.md R221. -/
namespace Sys2Proof.Proofs

open Sys2Proof.Machine

/-- The sentinel is outside the range of `zext_5`: PSEL there holds no code, whatever the sample (10_state.md R26). -/
theorem psel_ne_code_of_sentinel {s : State} (atStart : s.psel = .sentinel) (sel : Code) : s.psel ≠ .code sel := by
  rw [atStart]
  exact PrevSel.noConfusion

/-- Settles O13: at the sentinel every sampled code is a change, so the iteration is a selection's. -/
theorem firstIterationIsATransition : Obligations.FirstIterationIsATransition :=
  fun _ sel _ _ atStart next => step_of_selection (psel_ne_code_of_sentinel atStart sel) next

end Sys2Proof.Proofs
end

section
/-! The round trip between experiments and samples: 30_encoding.md R80, R82 to R84. -/
namespace Sys2Proof.Proofs

open Sys2Proof.Machine

/-! ### The views of `sec` undo the writing of it -/

@[simp] theorem high2_secOfPair (a b : BitVec 2) : high2 (secOfPair a b) = a := BitVec.extractLsb'_append_eq_left

@[simp] theorem low2_secOfPair (a b : BitVec 2) : low2 (secOfPair a b) = b := BitVec.extractLsb'_append_eq_right

@[simp] theorem secOfPair_high2_low2 (sec : Sec) : secOfPair (high2 sec) (low2 sec) = sec := by
  revert sec; decide

@[simp] theorem resetInput_secOfLatch (r s : BitVec 1) : resetInput (secOfLatch r s) = r := by
  revert r s; decide

@[simp] theorem setInput_secOfLatch (r s : BitVec 1) : setInput (secOfLatch r s) = s :=
  BitVec.extractLsb'_append_eq_right

/-- The latch reads the two low bits of `sec`. -/
@[simp] theorem secOfLatch_resetInput_setInput (sec : Sec) :
    secOfLatch (resetInput sec) (setInput sec) = sec &&& 0b0011#4 := by
  revert sec; decide

/-- Both halves together are the whole word (30_encoding.md R80). -/
@[simp] theorem sampleOf_selOf_secOf (w : Sample) : sampleOf (selOf w) (secOf w) = w := by
  refine BitVec.eq_of_getLsbD_eq fun k hk => ?_
  rw [sampleOf, BitVec.getLsbD_append]
  by_cases low : k < 4
  · simp [secOf, low]
  · have inSel : k - 4 < 4 := by omega
    rw [if_neg low, selOf_getLsbD w inSel]
    congr 1
    omega

/-- The row of the code map that holds the latch (30_encoding.md R84). -/
theorem decode_sampleOf_srlatch (sec : Sec) :
    decode (sampleOf 14#4 sec) = .srlatch (resetInput sec) (setInput sec) := by
  simp only [decode, sampleOf_getLsbD_add_four, secOf_sampleOf]
  rfl

theorem decode_encode (i : Instr) : decode (encode i) = i := by
  cases i with
  | nop0 | nop1 | nop2 | blink | stepclk | nop5 | upcnt | dncnt | gray | graybin =>
    exact decode_sampleOf_code rfl 0#4
  | and a b => exact (decode_sampleOf_and _).trans (by simp [Instr.sec])
  | or a b => exact (decode_sampleOf_or _).trans (by simp [Instr.sec])
  | not v => exact decode_sampleOf_not v
  | xor a b => exact (decode_sampleOf_xor _).trans (by simp [Instr.sec])
  | srlatch r s => exact (decode_sampleOf_srlatch _).trans (by simp [Instr.sec])
  | runlight k => exact decode_sampleOf_runlight k

/-- Settles O1: an experiment without operands is known from its code, and each view gives back the operands written
in `sec`. -/
theorem decodeOfEncode : Obligations.DecodeOfEncode := decode_encode

/-! ### The bits that are read -/

/-- The code alone tells which bits are read (30_encoding.md R83). -/
theorem secMask_eq (i : Instr) :
    i.secMask = if i.code.toNat < 10 then 0b0000#4 else if i.code = 14#4 then 0b0011#4 else 0b1111#4 := by
  cases i <;> rfl

theorem secMask_eq_of_code_eq {i j : Instr} (sameCode : i.code = j.code) : i.secMask = j.secMask := by
  rw [secMask_eq, secMask_eq, sameCode]

/-- What a decoded experiment is written with is what it reads of the sample. -/
theorem decode_sec (w : Sample) : (decode w).sec = secOf w &&& (decode w).secMask := by
  have allRead (x : Sec) : x &&& 15#4 = x := BitVec.and_allOnes
  unfold decode
  split <;> simp [Instr.sec, Instr.secMask, whole, allRead]

theorem encode_decode (w : Sample) : encode (decode w) = sampleOf (selOf w) (secOf w &&& (decode w).secMask) := by
  rw [encode, decode_code, decode_sec]

/-- Settles O3: the code is `sel`, and the operands are the bits that are read. -/
theorem encodeOfDecode : Obligations.EncodeOfDecode := encode_decode

/-- The samples that agree in their code and in the bits read there decode alike: both decode from one encoding. -/
theorem decode_eq_decode_iff (w w' : Sample) : decode w = decode w' ↔
    selOf w = selOf w' ∧ secOf w &&& (decode w).secMask = secOf w' &&& (decode w).secMask := by
  constructor
  · intro same
    refine ⟨?_, ?_⟩
    · rw [← decode_code w, ← decode_code w', same]
    · rw [← decode_sec w, same, ← decode_sec w']
  · rintro ⟨sameSel, sameSec⟩
    have sameCode : (decode w).code = (decode w').code := by rw [decode_code, decode_code, sameSel]
    have sameMask : (decode w).secMask = (decode w').secMask := secMask_eq_of_code_eq sameCode
    calc decode w = decode (encode (decode w)) := (decode_encode _).symm
      _ = decode (encode (decode w')) := by rw [encode_decode w, encode_decode w', sameSel, sameSec, sameMask]
      _ = decode w' := decode_encode _

/-- Settles O2: `decode_eq_decode_iff`. -/
theorem decodeReadsExactlyTheOperandBits : Obligations.DecodeReadsExactlyTheOperandBits := decode_eq_decode_iff

/-- Settles O5: eight words, each decoded. -/
theorem writtenWordsDecode : Obligations.WrittenWordsDecode := by
  unfold Obligations.WrittenWordsDecode
  decide

end Sys2Proof.Proofs
end

section
/-! The trace lines: 30_encoding.md R89 and R90. -/
namespace Sys2Proof.Proofs

open Sys2Proof.Machine

/-! ### What is well formed, by the form of the operand part -/

theorem wellFormed_absent_iff (n : Mnemonic) :
    (TraceLine.mk n .absent).wellFormed = true ↔ n ≠ .nop ∧ n.needsSec = false := by
  by_cases isNop : n = .nop <;> simp [TraceLine.wellFormed, TraceLine.problem, isNop]

theorem wellFormed_sec_iff (n : Mnemonic) (v : Sec) : (TraceLine.mk n (.sec v)).wellFormed = true ↔ n ≠ .nop := by
  by_cases isNop : n = .nop <;> simp [TraceLine.wellFormed, TraceLine.problem, isNop]

theorem wellFormed_pair_iff (n : Mnemonic) (a b : BitVec 2) :
    (TraceLine.mk n (.pair a b)).wellFormed = true ↔ n ≠ .nop ∧ n.takesPair = true := by
  by_cases isNop : n = .nop <;> simp [TraceLine.wellFormed, TraceLine.problem, isNop]

theorem wellFormed_latch_iff (n : Mnemonic) (s r : BitVec 1) :
    (TraceLine.mk n (.latch s r)).wellFormed = true ↔ n ≠ .nop ∧ n = .srlatch := by
  by_cases isNop : n = .nop <;> simp [TraceLine.wellFormed, TraceLine.problem, isNop]

theorem name_ne_nop_of_wellFormed {l : TraceLine} (ok : l.wellFormed = true) : l.name ≠ .nop := by
  obtain ⟨n, o⟩ := l
  cases o with
  | absent => exact ((wellFormed_absent_iff n).mp ok).1
  | sec v => exact (wellFormed_sec_iff n v).mp ok
  | pair a b => exact ((wellFormed_pair_iff n a b).mp ok).1
  | latch s r => exact ((wellFormed_latch_iff n s r).mp ok).1

/-! ### The names -/

theorem needsSec_iff (n : Mnemonic) :
    n.needsSec = true ↔ n ∈ [.and, .or, .not, .xor, .srlatch, .runlight] := by
  cases n <;> decide

theorem takesPair_iff (n : Mnemonic) : n.takesPair = true ↔ n ∈ [.and, .or, .xor] := by
  cases n <;> decide

/-- A name other than NOP names a code, whose samples decode to it (30_encoding.md R84, R90). -/
theorem code_of_name_ne_nop {n : Mnemonic} (named : n ≠ .nop) :
    ∃ c, n.code = some c ∧ ∀ sec, (decode (sampleOf c sec)).mnemonic = n := by
  obtain ⟨-, -, sameName⟩ := selIsTheWholeOpcode
  suffices ∃ c, n.code = some c ∧ (decode (sampleOf c 0#4)).mnemonic = n by
    obtain ⟨c, code, name⟩ := this
    exact ⟨c, code, fun sec => (sameName c sec 0#4).trans name⟩
  cases n
  case nop => exact absurd rfl named
  all_goals exact ⟨_, rfl, by decide⟩

theorem mnemonic_ne_nop (i : Instr) : i.mnemonic ≠ .nop := by
  cases i <;> exact Mnemonic.noConfusion

/-! ### The assembling -/

theorem assemble_of_wellFormed {l : TraceLine} {c : Code} (ok : l.wellFormed = true) (code : l.name.code = some c) :
    assemble l = some (sampleOf c l.operand.value) := by
  rw [assemble, if_pos ok, code, Option.map_some]

theorem assemble_of_not_wellFormed {l : TraceLine} (illFormed : l.wellFormed = false) : assemble l = none := by
  rw [assemble, illFormed, if_neg Bool.false_ne_true]

/-- NOP names no code, so whatever stands beside it nothing is assembled. -/
theorem assemble_nop (o : TraceOperand) : assemble ⟨.nop, o⟩ = none := by
  refine assemble_of_not_wellFormed (Bool.eq_false_iff.mpr fun ok => ?_)
  exact name_ne_nop_of_wellFormed ok rfl

theorem wellFormed_line (i : Instr) : i.line.wellFormed = true := by
  cases needs : i.mnemonic.needsSec with
  | true =>
    rw [Instr.line, needs, if_pos rfl, wellFormed_sec_iff]
    exact mnemonic_ne_nop i
  | false =>
    rw [Instr.line, needs, if_neg Bool.false_ne_true, wellFormed_absent_iff]
    exact ⟨mnemonic_ne_nop i, needs⟩

/-- Where `sec=` is left out it stands for the 0000 that the experiment is written with. -/
theorem value_line (i : Instr) : i.line.operand.value = i.sec := by
  cases i <;> rfl

/-- Settles O6: the line is well formed, names the experiment's code, and writes its `sec`. -/
theorem lineOfInstrAssembles : Obligations.LineOfInstrAssembles := by
  refine fun i => ⟨wellFormed_line i, ?_⟩
  rw [assemble_of_wellFormed (wellFormed_line i) (mnemonic_code i), value_line, encode]

/-- Settles O7: a name other than NOP has a code, which the sample carries beside the `sec` of the line; the
other clauses are the well-formedness and the value of each form of operand. -/
theorem traceLinesAssemble : Obligations.TraceLinesAssemble := by
  refine ⟨fun l ok => ?_, fun l => assemble_of_not_wellFormed, assemble_nop, fun n => ?_, wellFormed_sec_iff,
    fun n a b => ?_, fun n s r => ?_, rfl, fun v => rfl,
    fun a b => ⟨high2_secOfPair a b, low2_secOfPair a b⟩,
    fun s r => ⟨setInput_secOfLatch r s, resetInput_secOfLatch r s, ?_⟩⟩
  · obtain ⟨c, code, decodes⟩ := code_of_name_ne_nop (name_ne_nop_of_wellFormed ok)
    exact ⟨_, assemble_of_wellFormed ok code, decodes _, secOf_sampleOf c _⟩
  · rw [wellFormed_absent_iff, ← Bool.not_eq_true, needsSec_iff]
    simp only [List.mem_cons, List.not_mem_nil, or_false, not_or, ne_eq]
    tauto
  · rw [wellFormed_pair_iff, takesPair_iff, and_iff_right_of_imp]
    rintro pair rfl
    exact absurd pair (by decide)
  · rw [wellFormed_latch_iff, and_iff_right_of_imp]
    rintro rfl
    exact Mnemonic.noConfusion
  · dsimp only [TraceOperand.value]
    revert s r
    decide

end Sys2Proof.Proofs
end

section
/-! The properties of the two tables: 20_memory.md R52 and R53. -/
namespace Sys2Proof.Proofs

open Sys2Proof.Machine

/-- Next entries, the last and the first among them, differ in one bit (20_memory.md R52). -/
theorem grayTab_neighbours (i : BitVec 4) :
    ∃ k < 4, romRead grayTab i ^^^ romRead grayTab (i + 1#4) = 1#4 <<< k := by
  revert i; decide

/-- No entry stands twice in the table. -/
theorem grayTab_injective (i j : BitVec 4) (same : romRead grayTab j = romRead grayTab i) : j = i := by
  revert i j; decide

theorem grayTab_surjective (v : BitVec 4) : ∃ i, romRead grayTab i = v := by
  revert v; decide

/-- Settles O32: the table has each value once, and the other clauses are its lemmas. -/
theorem grayTableProperties : Obligations.GrayTableProperties := by
  refine ⟨grayTab_neighbours, grayTab_read, fun v => ?_, fun i => grayTab_read_lt_eight⟩
  obtain ⟨i, rfl⟩ := grayTab_surjective v
  exact ⟨i, rfl, grayTab_injective i⟩

theorem delayTab_entries : delayTab.toList.map BitVec.toNat =
    [50, 75, 150, 200, 300, 400, 600, 800, 1000, 1200, 1600, 2400, 3200, 4000, 4300, 4600] := by
  decide

theorem delayTab_strictMono (i j : BitVec 4) (less : i.toNat < j.toNat) :
    (romRead delayTab i).toNat < (romRead delayTab j).toNat := by
  revert i j; decide

/-- Settles O33: R53's list is the table's entries as numbers, and a read looks its index up in them. -/
theorem delayTableEntries : Obligations.DelayTableEntries := by
  refine ⟨fun i => ?_, delayTab_strictMono⟩
  rw [← delayTab_entries]
  exact entries_getElem?_eq_romRead delayTab i

end Sys2Proof.Proofs
end

section
/-! Single experiments: 41_clock_blink.md R120, 42_counters.md R132, 44_latch.md R160, 40_dispatch.md R114. -/
namespace Sys2Proof.Proofs

open Sys2Proof.Machine

/-! ### STEPCLK -/

/-- The whole state after phases 3 and 4 of STEPCLK, the tier being that of the value CKS advances from (decision
D14). -/
theorem stepClock_eq (s : State) :
    s.stepClock = { s with tier := s.cks.tier, cks := s.cks.next, out := toggleBit0 s.out,
                           events := s.events ++ [.clockSet s.cks.tier, .outWrite (toggleBit0 s.out),
                             .delay 500#13 s.cks.tier] } := by
  rw [← State.stepClock_events]
  rfl

theorem exec_stepclk_of_cks {s : State} {k : ClockState} (at_k : s.cks = k) :
    exec .stepclk s = .next { s with tier := k.tier, cks := k.next, out := s.out ^^^ 1#6,
                                     events := s.events ++ [.clockSet k.tier, .outWrite (s.out ^^^ 1#6),
                                       .delay 500#13 k.tier] } := by
  rw [exec_stepclk, stepClock_eq, at_k]
  rfl

/-- Settles O21: `exec_stepclk_of_cks` at each of the three values. -/
theorem stepclkSetsTierAdvancesAndToggles : Obligations.StepclkSetsTierAdvancesAndToggles :=
  ⟨decode_sampleOf_code (i := .stepclk) rfl, fun _ => exec_stepclk_of_cks, fun _ => exec_stepclk_of_cks,
    fun _ => exec_stepclk_of_cks⟩

/-! ### LEGACY_FALLTHROUGH -/

/-- The detector reads PSEL alone and keeps the parameter. -/
theorem detect_with_legacyFallthrough (s : State) (b : Bool) (sel : Code) :
    State.detect { s with legacyFallthrough := b } sel = { s.detect sel with legacyFallthrough := b } := by
  by_cases held : s.psel = .code sel
  · rw [detect_of_psel_eq held]
    exact detect_of_psel_eq held
  · rw [detect_of_psel_ne held]
    exact detect_of_psel_ne held

/-- Settles O20: codes 0, 1 and 2 share `noopOrFallthrough`, which is STEPCLK's phase 3 or empty by the parameter. -/
theorem legacyFallthroughRunsSteppedClock : Obligations.LegacyFallthroughRunsSteppedClock := by
  have runs0 (s : State) : exec .nop0 s = .next s.noopOrFallthrough := rfl
  have runs1 (s : State) : exec .nop1 s = .next s.noopOrFallthrough := rfl
  have runs2 (s : State) : exec .nop2 s = .next s.noopOrFallthrough := rfl
  refine ⟨fun s legacy => ⟨s.stepClock, exec_stepclk s, ?_⟩, fun s byDefault => ?_, exec_nop5,
    detect_with_legacyFallthrough⟩
  · rw [runs0, runs1, runs2, noopOrFallthrough_of_legacy legacy]
    exact ⟨rfl, rfl, rfl⟩
  · rw [runs0, runs1, runs2, noopOrFallthrough_of_default byDefault]
    exact ⟨rfl, rfl, rfl⟩

/-! ### GRAY -/

/-- The table is read with the count after it advanced (42_counters.md R132, decision D18). -/
theorem exec_gray (s : State) :
    exec .gray s = .next (((s.writeCnt (cntNext s.cnt 16)).writeOut
      ((romRead grayTab (cntNext s.cnt 16)).setWidth 6)).requestDelay 1000#13) := rfl

/-- Settles O25: `cntNext_toNat` for the count, and the rest of the state is that of a counter's writes and delay. -/
theorem grayAdvancesThenReadsTheTable : Obligations.GrayAdvancesThenReadsTheTable := by
  refine ⟨decode_sampleOf_code (i := .gray) rfl, fun s =>
    ⟨cntNext s.cnt 16, cntNext_toNat s.cnt (by decide) (by decide), ?_⟩⟩
  rw [exec_gray, writeCnt_writeOut_requestDelay_eq]

/-! ### SRLATCH -/

theorem exec_srlatch (r set : BitVec 1) (s : State) :
    exec (.srlatch r set) s = .next (s.writeOut (latchNext r set s.out)) := rfl

/-- Set wins, whatever R is. -/
theorem latchNext_set (r : BitVec 1) (v : Led) : latchNext r 1#1 v = 1#6 := by
  refine BitVec.eq_of_toNat_eq ?_
  rw [latchNext_toNat, if_pos rfl]
  rfl

/-- R is active low: at 0 it clears. -/
theorem latchNext_clear (v : Led) : latchNext 0#1 0#1 v = 0#6 := by
  refine BitVec.eq_of_toNat_eq ?_
  rw [latchNext_toNat, if_neg (by decide), if_neg (by decide)]
  rfl

theorem latchNext_hold_toNat (v : Led) : (latchNext 1#1 0#1 v).toNat = v.toNat % 2 := by
  rw [latchNext_toNat, if_neg (by decide), if_pos rfl]

/-- Settles O29: a row of the truth table for each lemma on `latchNext`, and the rest of the state is that of a
write. -/
theorem srlatchTruthTable : Obligations.SrlatchTruthTable := by
  refine ⟨decode_sampleOf_srlatch, fun r s => ?_, fun s => ?_, fun s => ⟨_, latchNext_hold_toNat s.out, ?_⟩⟩
  · rw [exec_srlatch, latchNext_set, writeOut_eq]
  · rw [exec_srlatch, latchNext_clear, writeOut_eq]
  · rw [exec_srlatch, writeOut_eq]

end Sys2Proof.Proofs
end

section
/-! The input a step takes, and the reset: 40_dispatch.md R101, 70_reset_and_hazards.md R220 to R223. -/
namespace Sys2Proof.Proofs

open Sys2Proof.Machine

/-! ### Samples -/

/-- `step_of_sample` for any source of the sample, listed or free. -/
theorem step_of_nextInput {s : State} {sel : Code} {sec : Sec} (next : s.nextInput = .sample sel sec) :
    step s = exec (decode (sampleOf sel sec)) (s.beginIteration.detect sel) := by
  rw [step, next]

/-- Settles O8: the sample is taken from the stimulus, and the step is the detector and then the experiment. -/
theorem stepRunsTheDecodedSample : Obligations.StepRunsTheDecodedSample := by
  intro s sel sec rest i next decodes
  rw [step_of_sample next, decodes, beginIteration_eq next]

/-- The whole state after a free sample was drawn. -/
theorem beginIteration_eq_of_nil {s : State} (none_listed : s.stimulus = []) :
    s.beginIteration = { s with events := [], history := s.history ++ s.events, draws := s.draws + 1 } := by
  rw [State.beginIteration, none_listed, List.tail_nil, List.isEmpty_nil, if_pos rfl]

/-- Settles O9: `nextInput_nil` gives the free sample and `beginIteration_eq_of_nil` counts it. -/
theorem stepDrawsAFreeSample : Obligations.StepDrawsAFreeSample := by
  intro s none_listed
  rw [step_of_nextInput (nextInput_nil none_listed), beginIteration_eq_of_nil none_listed]

/-- The high half of a byte as a number is its code (30_encoding.md R80). -/
theorem selOf_ofNat {w : Nat} (byte : w < 256) : selOf (BitVec.ofNat 8 w) = BitVec.ofNat 4 (w / 16) := by
  refine BitVec.eq_of_toNat_eq ?_
  rw [selOf, BitVec.extractLsb'_toNat, BitVec.toNat_ofNat, BitVec.toNat_ofNat, Nat.mod_eq_of_lt (b := 2 ^ 8) byte,
    Nat.shiftRight_eq_div_pow]

theorem decodeTableWord_eight {w : Nat} (byte : w < 256) : decodeTableWord 8 w = some (decode (BitVec.ofNat 8 w)) := by
  rw [decodeTableWord, if_pos le_rfl, Nat.mod_eq_of_lt (b := 2 ^ 8) byte]
  rfl

theorem withFetchWord_eight (s : State) {w : Nat} (byte : w < 256) : s.withFetchWord 8 w =
    { s with stimulus :=
        .sample (selOf (BitVec.ofNat 8 w)) (secOf (BitVec.ofNat 8 w)) :: s.stimulus } := by
  rw [State.withFetchWord, Nat.mod_eq_of_lt (b := 2 ^ 8) byte]

/-- Settles O10: the placed word is the head of the stimulus, split into its two halves, and they decode as the word
does. -/
theorem placedWordRunsNext : Obligations.PlacedWordRunsNext := by
  intro s w byte
  refine ⟨_, decodeTableWord_eight byte, ?_⟩
  rw [withFetchWord_eight s byte, step_of_sample rfl, sampleOf_selOf_secOf, beginIteration_eq rfl, selOf_ofNat byte]

/-- Settles O17: at the sentinel the detector acts, and it writes TIER before anything reads it. -/
theorem tierAtResetIsNeverRead : Obligations.TierAtResetIsNeverRead := by
  intro s u sel sec atStart next
  have changed : s.psel ≠ .code sel := psel_ne_code_of_sentinel atStart sel
  have next_u : ({ s with tier := u } : State).nextInput = .sample sel sec := next
  have changed_begun : s.beginIteration.psel ≠ .code sel := changed
  have changed_begun_u : ({ s with tier := u } : State).beginIteration.psel ≠ .code sel := changed
  rw [step_of_nextInput next_u, step_of_nextInput next, detect_of_psel_ne changed_begun_u,
    detect_of_psel_ne changed_begun, transition_eq, transition_eq]
  rfl

/-! ### Reset -/

theorem step_of_reset {s : State} (next : s.nextInput = .reset) : step s = .next s.beginIteration.hardReset := by
  rw [step, next]

/-- Settles O15: the fields of `State.reset`. -/
theorem resetZeroesOutCntCks : Obligations.ResetZeroesOutCntCks := ⟨rfl, rfl, rfl⟩

/-- Settles O16: the reset input is taken from the stimulus, and `hardReset` writes the five elements alone. -/
theorem resetInputGivesTheResetState : Obligations.ResetInputGivesTheResetState := by
  intro s rest next
  rw [step_of_reset (nextInput_cons next), beginIteration_eq next]
  rfl

end Sys2Proof.Proofs
end

section
/-! What an experiment can do, said once: 40_dispatch.md R107 to R110 and R114. Every claim on a step's result below
is a case split on `Effect`. -/
namespace Sys2Proof.Proofs

open Sys2Proof.Machine

/-- CNT after an experiment: the Gray counters advance it (42_counters.md R132, R133). -/
def cntAfter : Instr → BitVec 4 → BitVec 4
  | .gray, c => cntNext c 16
  | .graybin, c => cntNext c 8
  | .nop0, c | .nop1, c | .nop2, c | .blink, c | .stepclk, c | .nop5, c | .upcnt, c | .dncnt, c => c
  | .and _ _, c | .or _ _, c | .not _, c | .xor _ _, c | .srlatch _ _, c | .runlight _, c => c

/-- The value an experiment that only writes and waits gives OUT, from the OUT and the CNT before it; the others have
none. -/
def outAfter : Instr → Led → BitVec 4 → Led
  | .blink, v, _ => toggleBit0 v
  | .upcnt, v, _ => upMod16 v
  | .dncnt, v, _ => downMod16 v
  | .gray, _, c => (romRead grayTab (cntNext c 16)).setWidth 6
  | .graybin, _, c => grayBeside (romRead grayTab (cntNext c 8)) (cntNext c 8)
  | .and a b, _, _ => (a &&& b).setWidth 6
  | .or a b, _, _ => (a ||| b).setWidth 6
  | .not x, _, _ => (~~~x).setWidth 6
  | .xor a b, _, _ => (a ^^^ b).setWidth 6
  | .srlatch r q, v, _ => latchNext r q v
  | .runlight _, v, _ => walkLight v
  | .nop0, v, _ | .nop1, v, _ | .nop2, v, _ | .nop5, v, _ | .stepclk, v, _ => v

/-- The delay after the write, at tier `u` (70_reset_and_hazards.md R233). -/
def waitAfter : Instr → Tier → List Event
  | .blink, u => [.delay 500#13 u]
  | .upcnt, u | .dncnt, u | .gray, u | .graybin, u => [.delay 1000#13 u]
  | .runlight k, u => [.delay (romRead delayTab k) u]
  | .and _ _, _ | .or _ _, _ | .not _, _ | .xor _ _, _ | .srlatch _ _, _ => []
  | .nop0, _ | .nop1, _ | .nop2, _ | .nop5, _ | .stepclk, _ => []

/-- The state after an experiment that only writes and waits. -/
def written (i : Instr) (s : State) : State :=
  { s with cnt := cntAfter i s.cnt, out := outAfter i s.out s.cnt,
           events := s.events ++ .outWrite (outAfter i s.out s.cnt) :: waitAfter i s.tier }

/-- The codes whose phase 3 is empty (46_noop.md R180 to R183, 40_dispatch.md R114). -/
abbrev Idles (legacy : Bool) (c : Code) : Prop := c = 5#4 ∨ (c.toNat < 3 ∧ legacy = false)

/-- The codes whose phase 3 writes OUT and, under both settings, does not step the clock. -/
abbrev Writes (c : Code) : Prop := 3 ≤ c.toNat ∧ c ≠ 4#4 ∧ c ≠ 5#4

/-- The three things phases 3 and 4 of an experiment can do, told apart by its code and the parameter. -/
inductive Effect (i : Instr) (s : State) : State → Prop
  | idle (idles : Idles s.legacyFallthrough i.code) : Effect i s s
  | clock (steps : stepsClock s.legacyFallthrough i.code = true) : Effect i s s.stepClock
  | write (writes : Writes i.code) : Effect i s (written i s)

theorem stepsClock_eq_true_iff (legacy : Bool) (c : Code) :
    stepsClock legacy c = true ↔ c = 4#4 ∨ (c.toNat < 3 ∧ legacy = true) := by
  revert legacy c; decide

theorem not_stepsClock_of_idles {legacy : Bool} {c : Code} (idles : Idles legacy c) : stepsClock legacy c = false := by
  revert legacy c; decide

theorem not_idles_of_stepsClock {legacy : Bool} {c : Code} (steps : stepsClock legacy c = true) : ¬ Idles legacy c :=
  fun idles => by simp [not_stepsClock_of_idles idles] at steps

theorem not_stepsClock_of_writes {c : Code} (writes : Writes c) (legacy : Bool) : stepsClock legacy c = false := by
  revert legacy c; decide

theorem not_idles_of_writes {c : Code} (writes : Writes c) (legacy : Bool) : ¬ Idles legacy c := by
  revert legacy c; decide

/-- Codes 0, 1 and 2 are idle or step the clock, by the parameter. -/
theorem exec_effect_of_noop {i : Instr} {s : State} (below : i.code.toNat < 3)
    (runs : exec i s = .next s.noopOrFallthrough) : ∃ t, exec i s = .next t ∧ Effect i s t := by
  refine ⟨_, runs, ?_⟩
  rcases noopOrFallthrough_cases s with ⟨byDefault, stays⟩ | ⟨legacy, steps⟩
  · rw [stays]
    exact .idle (.inr ⟨below, byDefault⟩)
  · rw [steps]
    exact .clock ((stepsClock_eq_true_iff _ _).mpr (.inr ⟨below, legacy⟩))

theorem exec_eq_written {i : Instr} (writes : Writes i.code) (s : State) : exec i s = .next (written i s) := by
  cases i with
  | nop0 | nop1 | nop2 | stepclk | nop5 => exact absurd writes (by decide)
  | blink | upcnt | dncnt | runlight => exact congrArg Host.Outcome.next (writeOut_requestDelay_eq s _ _)
  | gray | graybin => exact congrArg Host.Outcome.next (writeCnt_writeOut_requestDelay_eq s _ _ _)
  | and | or | not | xor | srlatch => rfl

theorem exec_effect (i : Instr) (s : State) : ∃ t, exec i s = .next t ∧ Effect i s t := by
  by_cases writes : Writes i.code
  · exact ⟨_, exec_eq_written writes s, .write writes⟩
  · cases i with
    | nop0 | nop1 | nop2 => exact exec_effect_of_noop (by decide) rfl
    | stepclk => exact ⟨_, exec_stepclk s, .clock rfl⟩
    | nop5 => exact ⟨_, exec_nop5 s, .idle (.inl rfl)⟩
    | blink | upcnt | dncnt | gray | graybin | and | or | not | xor | srlatch | runlight =>
      exact absurd (by dsimp only [Instr.code]; decide) writes

theorem effect_of_exec {i : Instr} {s t : State} (runs : exec i s = .next t) : Effect i s t := by
  obtain ⟨t', runs', effect⟩ := exec_effect i s
  obtain rfl : t' = t := Host.Outcome.next.inj (runs'.symm.trans runs)
  exact effect

/-- The experiment of an iteration runs after the detector. -/
theorem effect_of_step {s t : State} {sel : Code} {sec : Sec} (next : s.nextInput = .sample sel sec)
    (runs : step s = .next t) : Effect (decode (sampleOf sel sec)) (s.beginIteration.detect sel) t :=
  effect_of_exec ((step_of_nextInput next).symm.trans runs)

/-! ### The frame -/

section
variable {i : Instr} {s t : State}

theorem Effect.psel (e : Effect i s t) : t.psel = s.psel := by cases e <;> rfl

theorem Effect.history (e : Effect i s t) : t.history = s.history := by cases e <;> rfl

theorem Effect.stimulus (e : Effect i s t) : t.stimulus = s.stimulus := by cases e <;> rfl

theorem Effect.draws (e : Effect i s t) : t.draws = s.draws := by cases e <;> rfl

theorem Effect.legacyFallthrough (e : Effect i s t) : t.legacyFallthrough = s.legacyFallthrough := by
  cases e <;> rfl

theorem cntAfter_of_ne (notGray : i ≠ .gray) (notGraybin : i ≠ .graybin) (c : BitVec 4) : cntAfter i c = c := by
  cases i
  case gray => exact absurd rfl notGray
  case graybin => exact absurd rfl notGraybin
  all_goals rfl

theorem Effect.cnt (e : Effect i s t) (notGray : i ≠ .gray) (notGraybin : i ≠ .graybin) : t.cnt = s.cnt := by
  cases e with
  | idle | clock => rfl
  | write => exact cntAfter_of_ne notGray notGraybin s.cnt

theorem Effect.eq_of_idles (e : Effect i s t) (idles : Idles s.legacyFallthrough i.code) : t = s := by
  cases e with
  | idle => rfl
  | clock steps => exact absurd idles (not_idles_of_stepsClock steps)
  | write writes => exact absurd idles (not_idles_of_writes writes _)

end

@[simp] theorem clockSets_waitAfter (i : Instr) (u : Tier) : clockSets (waitAfter i u) = [] := by
  cases i <;> rfl

@[simp] theorem outWrites_waitAfter (i : Instr) (u : Tier) : outWrites (waitAfter i u) = [] := by
  cases i <;> rfl

/-- An experiment that does not step the clock leaves CKS and TIER, and commands no `ClockSet`. -/
theorem Effect.unclocked {i : Instr} {s t : State} (e : Effect i s t) :
    ∃ es, t.events = s.events ++ es ∧ (stepsClock s.legacyFallthrough i.code = false →
      t.cks = s.cks ∧ t.tier = s.tier ∧ clockSets es = []) := by
  cases e with
  | idle => exact ⟨[], (List.append_nil _).symm, fun _ => ⟨rfl, rfl, rfl⟩⟩
  | clock steps => exact ⟨_, State.stepClock_events s, fun unclocked => by simp [unclocked] at steps⟩
  | write => exact ⟨_, rfl, fun _ => ⟨rfl, rfl, clockSets_waitAfter i s.tier⟩⟩

/-- Settles O41: each clause is read off the three effects. -/
theorem experimentFrame : Obligations.ExperimentFrame := by
  intro i s t runs
  have e := effect_of_exec runs
  refine ⟨e.psel, e.history, e.stimulus, e.draws, e.legacyFallthrough, e.cnt, fun nop5 => ?_,
    fun byDefault noop => ?_, e.unclocked⟩
  · subst nop5
    exact congrArg State.out (e.eq_of_idles (.inl rfl))
  · have below : i.code.toNat < 3 := by
      simp only [List.mem_cons, List.not_mem_nil, or_false] at noop
      rcases noop with rfl | rfl | rfl <;> decide
    exact congrArg State.out (e.eq_of_idles (.inr ⟨below, byDefault⟩))

/-! ### The step's own fields -/

/-- Settles O14: the detector leaves PSEL at the sampled code, and no experiment writes it. -/
theorem previousSelectionHoldsTheSampledCode : Obligations.PreviousSelectionHoldsTheSampledCode := by
  refine ⟨rfl, rfl, fun c => ⟨rfl, ?_⟩, fun s t sel sec next runs => ?_⟩
  · have inRange : c.toNat < 16 := c.isLt
    rw [PrevSel.bits, BitVec.toNat_setWidth_of_le (by decide)]
    omega
  · rw [(effect_of_step next runs).psel, detect_psel]

/-- A free sample is counted when no input is listed. -/
theorem beginIteration_draws_eq (s : State) :
    s.beginIteration.draws = s.draws + (if s.stimulus = [] then 1 else 0) := by
  rw [State.beginIteration_draws]
  cases s.stimulus <;> rfl

/-- Settles O42: the four fields are those of `beginIteration`, which the detector, the experiments and the reset
leave. -/
theorem stepFilesEventsAndKeepsTheParameter : Obligations.StepFilesEventsAndKeepsTheParameter := by
  intro s t runs
  rcases step_by_input s with ⟨sel, sec, next, -⟩ | ⟨-, resets⟩
  · have e := effect_of_step next runs
    rw [e.history, e.stimulus, e.draws, e.legacyFallthrough, detect_history, detect_stimulus, detect_draws,
      detect_legacyFallthrough]
    exact ⟨rfl, rfl, beginIteration_draws_eq s, rfl⟩
  · obtain rfl := Host.Outcome.next.inj (resets.symm.trans runs)
    exact ⟨rfl, rfl, beginIteration_draws_eq s, rfl⟩

end Sys2Proof.Proofs
end

section
/-! The events of an iteration: 20_memory.md R65, 40_dispatch.md R109 to R112, 70_reset_and_hazards.md R233. -/
namespace Sys2Proof.Proofs

open Sys2Proof.Machine

/-- The detector's part of the list (40_dispatch.md R104, decision D21). -/
theorem detect_beginIteration_events (s : State) (sel : Code) : (s.beginIteration.detect sel).events =
    if s.psel = .code sel then [] else [.outWrite 0#6, .clockSet (tierOf sel)] := by
  by_cases held : s.psel = .code sel
  · rw [detect_of_psel_eq (s := s.beginIteration) held, if_pos held]
    rfl
  · rw [detect_of_psel_ne (s := s.beginIteration) held, State.transition_events, if_neg held]
    rfl

/-- The delay by code: the table's index is the `sec` that RUNLIGHT is written with. -/
theorem waitAfter_eq (i : Instr) (u : Tier) : waitAfter i u =
    if i.code = 3#4 then [.delay 500#13 u]
    else if 6 ≤ i.code.toNat ∧ i.code.toNat ≤ 9 then [.delay 1000#13 u]
    else if i.code = 15#4 then [.delay (romRead delayTab i.sec) u]
    else [] := by
  cases i <;> rfl

/-- No code that is idle or steps the clock has a delay of its own. -/
theorem no_wait_code_of_lt_six {c : Code} (below : c.toNat < 6) : ¬ (6 ≤ c.toNat ∧ c.toNat ≤ 9) ∧ c ≠ 15#4 :=
  ⟨by omega, by rintro rfl; exact absurd below (by decide)⟩

/-- The experiment's part of the list, in the order of 20_memory.md R65. -/
theorem Effect.events_eq {i : Instr} {s t : State} (e : Effect i s t) : t.events = s.events ++
    (if stepsClock s.legacyFallthrough i.code then [.clockSet t.tier] else []) ++
    (if Idles s.legacyFallthrough i.code then [] else [.outWrite t.out]) ++
    (if i.code = 3#4 ∨ stepsClock s.legacyFallthrough i.code = true then [.delay 500#13 t.tier]
      else if 6 ≤ i.code.toNat ∧ i.code.toNat ≤ 9 then [.delay 1000#13 t.tier]
      else if i.code = 15#4 then [.delay (romRead delayTab i.sec) t.tier]
      else []) := by
  cases e with
  | idle idles =>
    have no_wait : i.code ≠ 3#4 ∧ i.code.toNat < 6 := by
      rcases idles with nop5 | ⟨below, -⟩
      · rw [nop5]
        decide
      · exact ⟨fun blink => absurd (blink ▸ below) (by decide), by omega⟩
    obtain ⟨notBlink, below⟩ := no_wait
    obtain ⟨notCounter, notRunlight⟩ := no_wait_code_of_lt_six below
    simp [not_stepsClock_of_idles idles, idles, notBlink, notCounter, notRunlight]
  | clock steps =>
    rw [if_pos steps, if_neg (not_idles_of_stepsClock steps), if_pos (.inr steps), State.stepClock_events]
    simp
  | write writes =>
    rw [if_neg (not_idles_of_writes writes _)]
    simp only [not_stepsClock_of_writes writes, Bool.false_eq_true, or_false, if_false, List.append_nil]
    rw [← waitAfter_eq, List.append_assoc]
    rfl

/-- The index RUNLIGHT is written with is the sampled `sec`. -/
theorem decode_sampleOf_runlight_sec (sec : Sec) : (decode (sampleOf 15#4 sec)).sec = sec := by
  rw [decode_sampleOf_runlight]
  rfl

/-- Settles O39: the detector's part, and the experiment's part at the sampled code and `sec`. -/
theorem iterationEventsInOrder : Obligations.IterationEventsInOrder := by
  intro s t sel sec next runs
  have inOrder := (effect_of_step next runs).events_eq
  rw [detect_beginIteration_events, detect_legacyFallthrough, State.beginIteration_legacyFallthrough, decode_code,
    selOf_sampleOf] at inOrder
  refine ⟨_, _, _, _, inOrder, rfl, rfl, rfl, ?_⟩
  by_cases runlight : sel = 15#4
  · subst runlight
    rw [decode_sampleOf_runlight_sec]
  · simp only [runlight, if_false]

theorem nominalMs_append (es fs : List Event) : nominalMs (es ++ fs) = nominalMs es + nominalMs fs := by
  simp [nominalMs]

/-- Settles O50: of the four parts of the list only the last holds a delay. -/
theorem nominalDelayPerExperiment : Obligations.NominalDelayPerExperiment := by
  intro s t sel sec next runs
  obtain ⟨detector, clock, write, wait, inOrder, detects, clocks, writes, waits⟩ :=
    iterationEventsInOrder s t sel sec next runs
  have no_detector : nominalMs detector = 0 := by rw [detects]; split <;> rfl
  have no_clock : nominalMs clock = 0 := by rw [clocks]; split <;> rfl
  have no_write : nominalMs write = 0 := by rw [writes]; split <;> rfl
  rw [inOrder, nominalMs_append, nominalMs_append, nominalMs_append, no_detector, no_clock, no_write, waits]
  simp only [Nat.zero_add]
  split_ifs <;> rfl

/-! ### The output latch -/

/-- OUT is the last `OutWrite` of the list, or `v` where there is none (40_dispatch.md R109). -/
def OutIsLastWrite (v : Led) (s : State) : Prop := s.out = (outWrites s.events).getLast?.getD v

theorem outIsLastWrite_detect (s : State) (sel : Code) : OutIsLastWrite s.out (s.beginIteration.detect sel) := by
  rcases detect_cases s.beginIteration sel with ⟨-, acts⟩ | ⟨-, idle⟩
  · rw [acts, OutIsLastWrite, State.transition_events]
    rfl
  · rw [idle]
    rfl

theorem Effect.outIsLastWrite {i : Instr} {s t : State} {v : Led} (e : Effect i s t) (before : OutIsLastWrite v s) :
    OutIsLastWrite v t := by
  cases e with
  | idle => exact before
  | clock => simp [OutIsLastWrite, State.stepClock_events, outWrites]
  | write => simp [OutIsLastWrite, written, outWrites]

/-- Settles O40: the detector and each effect keep OUT at the last write, and `led` shows OUT. -/
theorem ledChangesOnlyByOutWrite : Obligations.LedChangesOnlyByOutWrite := by
  intro s t sel sec next runs
  have last : OutIsLastWrite s.out t := (effect_of_step next runs).outIsLastWrite (outIsLastWrite_detect s sel)
  exact ⟨last, fun i => ⟨(led_eq t i).trans (congrArg (BitVec.getLsbD · i) last), led_eq s i⟩⟩

end Sys2Proof.Proofs
end

section
/-! The invariants I-b to I-f: 10_state.md R35. -/
namespace Sys2Proof.Proofs

open Sys2Proof.Machine

/-! ### The range of OUT by code (R35 I-f) -/

theorem mem_zero_one_iff (n : Nat) : n ∈ [0, 1] ↔ n ≤ 1 := by
  simp only [List.mem_cons, List.not_mem_nil, or_false]
  omega

theorem outValues_of_stepsClock {legacy : Bool} {c : Code} (steps : stepsClock legacy c = true) :
    outValues legacy c = [0, 1] := by
  rw [outValues, if_pos steps]

/-- The parameter widens no range but those of the codes that step the clock by it. -/
theorem outValues_of_unclocked {legacy : Bool} {c : Code} (unclocked : stepsClock legacy c = false) :
    outValues legacy c = outValues false c := by
  revert legacy c; decide

theorem outValues_of_idles {legacy : Bool} {c : Code} (idles : Idles legacy c) : outValues legacy c = [0] := by
  revert legacy c; decide

/-- The eight outputs of GRAYBIN (42_counters.md R133). -/
theorem grayBeside_mem_outValues (c : BitVec 4) :
    (grayBeside (romRead grayTab (cntNext c 8)) (cntNext c 8)).toNat ∈ outValues false 9#4 := by
  revert c; decide

/-- The light stays single, and from dark it is seeded (45_running_light.md R170). -/
theorem walkLight_mem_outValues {v : Led} (entered : v = 0#6 ∨ v.toNat ∈ outValues false 15#4) :
    (walkLight v).toNat ∈ outValues false 15#4 := by
  revert v; decide

/-- OUT as an experiment finds it: zeroed by its selection, or in the range that its last iteration left. -/
abbrev OutEntered (legacy : Bool) (c : Code) (v : Led) : Prop := v = 0#6 ∨ v.toNat ∈ outValues legacy c

/-- Where the range is 0 and 1, the zero of the selection lies in it. -/
theorem le_one_of_outEntered {legacy : Bool} {c : Code} {v : Led} (range : outValues legacy c = [0, 1])
    (entered : OutEntered legacy c v) : v.toNat ≤ 1 := by
  rcases entered with rfl | held
  · decide
  · rwa [range, mem_zero_one_iff] at held

theorem toggleBit0_mem_zero_one {v : Led} (low : v.toNat ≤ 1) : (toggleBit0 v).toNat ∈ [0, 1] := by
  rw [mem_zero_one_iff, toggleBit0_toNat_of_le_one low]
  omega

/-- A result of `n` bits, extended to OUT's width, is below `2 ^ n`. -/
theorem setWidth_six_mem_range {n : Nat} (hn : n ≤ 6) (x : BitVec n) : (x.setWidth 6).toNat ∈ List.range (2 ^ n) := by
  rw [List.mem_range, BitVec.toNat_setWidth_of_le hn]
  exact x.isLt

theorem latchNext_mem_zero_one (r q : BitVec 1) (v : Led) : (latchNext r q v).toNat ∈ [0, 1] := by
  rw [mem_zero_one_iff, latchNext_toNat]
  split_ifs <;> omega

/-- Each experiment that writes keeps OUT in its own range, from any OUT it can find. -/
theorem outAfter_mem_outValues {i : Instr} {v : Led} (c : BitVec 4) (writes : Writes i.code)
    (entered : OutEntered false i.code v) :
    (outAfter i v c).toNat ∈ outValues false i.code := by
  cases i with
  | nop0 | nop1 | nop2 | stepclk | nop5 => exact absurd writes (by decide)
  | blink => exact toggleBit0_mem_zero_one (le_one_of_outEntered rfl entered)
  | upcnt => exact setWidth_six_mem_range (n := 4) (by decide) _
  | dncnt => exact setWidth_six_mem_range (n := 4) (by decide) _
  | gray => exact setWidth_six_mem_range (n := 4) (by decide) _
  | graybin => exact grayBeside_mem_outValues c
  | and a b => exact setWidth_six_mem_range (n := 2) (by decide) _
  | or a b => exact setWidth_six_mem_range (n := 2) (by decide) _
  | not x => exact setWidth_six_mem_range (n := 4) (by decide) _
  | xor a b => exact setWidth_six_mem_range (n := 2) (by decide) _
  | srlatch r q => exact latchNext_mem_zero_one r q v
  | runlight k => exact walkLight_mem_outValues entered

/-! ### Between the detector and the experiment -/

/-- What holds when the experiment of code `c` starts: the invariants of a held code, or the zeroed state. -/
structure Entering (c : Code) (s : State) : Prop where
  psel : s.psel = .code c
  cks_idle : stepsClock s.legacyFallthrough c = false → s.cks = .zero
  cnt_idle : c ≠ 8#4 → c ≠ 9#4 → s.cnt = 0#4
  cnt_graybin : c = 9#4 → s.cnt.toNat ≤ 7
  tier_held : stepsClock s.legacyFallthrough c = false → s.tier = tierOf c
  out_entered : OutEntered s.legacyFallthrough c s.out

theorem entering_of_registersLegal {s : State} (legal : RegistersLegal s) (c : Code) :
    Entering c (s.beginIteration.detect c) := by
  rcases detect_cases s.beginIteration c with ⟨-, acts⟩ | ⟨held, idle⟩
  · rw [acts]
    exact ⟨rfl, fun _ => rfl, fun _ _ => rfl, fun _ => Nat.zero_le 7, fun _ => rfl, .inl rfl⟩
  · rw [idle]
    have held_s : s.psel = .code c := held
    exact ⟨held, legal.cks_idle c held_s, legal.cnt_idle c held_s,
      fun graybin => legal.cnt_graybin (graybin ▸ held_s), legal.tier_held c held_s,
      .inr (legal.out_range c held_s)⟩

/-- The invariants of a state that holds a code, for that code alone. -/
theorem registersLegal_of_code {t : State} {c : Code} (held : t.psel = .code c)
    (cks_idle : stepsClock t.legacyFallthrough c = false → t.cks = .zero)
    (cnt_idle : c ≠ 8#4 → c ≠ 9#4 → t.cnt = 0#4) (cnt_graybin : c = 9#4 → t.cnt.toNat ≤ 7)
    (tier_held : stepsClock t.legacyFallthrough c = false → t.tier = tierOf c)
    (tier_stepped : stepsClock t.legacyFallthrough c = true → ∃ k : ClockState, t.tier = k.tier ∧ t.cks = k.next)
    (out_range : t.out.toNat ∈ outValues t.legacyFallthrough c) : RegistersLegal t := by
  have only {d : Code} (other : t.psel = .code d) : d = c := PrevSel.code.inj (other.symm.trans held)
  refine ⟨fun atStart => ?_, fun d h => ?_, fun d h => ?_, fun h => cnt_graybin (only h).symm, fun d h => ?_,
    fun d h => ?_, fun d h => ?_⟩
  · exact absurd held (psel_ne_code_of_sentinel atStart c)
  all_goals
    obtain rfl := only h
    assumption

theorem cntAfter_graybin_le_seven {i : Instr} (graybin : i.code = 9#4) (c : BitVec 4) :
    (cntAfter i c).toNat ≤ 7 := by
  cases i
  case graybin =>
    have advanced : (cntNext c 8).toNat = (c.toNat + 1) % 8 := cntNext_toNat c (by decide) (by decide)
    rw [cntAfter, advanced]
    omega
  all_goals exact absurd graybin (by dsimp only [Instr.code]; decide)

theorem cntAfter_of_code_ne {i : Instr} (notGray : i.code ≠ 8#4) (notGraybin : i.code ≠ 9#4) (c : BitVec 4) :
    cntAfter i c = c :=
  cntAfter_of_ne (by rintro rfl; exact notGray rfl) (by rintro rfl; exact notGraybin rfl) c

theorem Entering.registersLegal {i : Instr} {s t : State} (start : Entering i.code s) (e : Effect i s t) :
    RegistersLegal t := by
  cases e with
  | idle idles =>
    have zero_out : outValues s.legacyFallthrough i.code = [0] := outValues_of_idles idles
    have zero : s.out.toNat = 0 := by
      rcases start.out_entered with zeroed | held
      · rw [zeroed]
        rfl
      · simpa [zero_out] using held
    refine registersLegal_of_code start.psel start.cks_idle start.cnt_idle start.cnt_graybin start.tier_held
      (fun steps => absurd idles (not_idles_of_stepsClock steps)) ?_
    simp [zero_out, zero]
  | clock steps =>
    have zero_one : outValues s.legacyFallthrough i.code = [0, 1] := outValues_of_stepsClock steps
    have clocked : stepsClock s.legacyFallthrough i.code ≠ false := by simp [steps]
    refine registersLegal_of_code (c := i.code) start.psel (absurd · clocked) start.cnt_idle start.cnt_graybin
      (absurd · clocked) (fun _ => ⟨s.cks, rfl, rfl⟩) ?_
    rw [State.stepClock_legacyFallthrough, zero_one]
    exact toggleBit0_mem_zero_one (le_one_of_outEntered zero_one start.out_entered)
  | write writes =>
    have default_range := outValues_of_unclocked (not_stepsClock_of_writes writes s.legacyFallthrough)
    have entered := start.out_entered
    rw [OutEntered, default_range] at entered
    refine registersLegal_of_code (c := i.code) start.psel start.cks_idle (fun notGray notGraybin => ?_)
      (fun graybin => cntAfter_graybin_le_seven graybin s.cnt) start.tier_held (fun steps => ?_) ?_
    · exact (cntAfter_of_code_ne notGray notGraybin s.cnt).trans (start.cnt_idle notGray notGraybin)
    · exact Bool.noConfusion ((not_stepsClock_of_writes writes _).symm.trans steps)
    · exact default_range ▸ outAfter_mem_outValues s.cnt writes entered

theorem registersLegal_hardReset (s : State) : RegistersLegal s.hardReset := by
  have holds_none {c : Code} (held : s.hardReset.psel = .code c) : False := PrevSel.noConfusion held
  exact ⟨fun _ => ⟨rfl, rfl, rfl⟩, fun _ held => (holds_none held).elim, fun _ held => (holds_none held).elim,
    fun held => (holds_none held).elim, fun _ held => (holds_none held).elim, fun _ held => (holds_none held).elim,
    fun _ held => (holds_none held).elim⟩

/-- Settles O35: the detector leaves the invariants of a held code or the zeroed state, each effect leads from there to
the invariants again, and a reset input gives the reset values. -/
theorem legalRegistersAreKept : Obligations.LegalRegistersAreKept := by
  intro s t legal runs
  rcases step_by_input s with ⟨sel, sec, next, -⟩ | ⟨-, resets⟩
  · have start := entering_of_registersLegal legal sel
    have code : (decode (sampleOf sel sec)).code = sel := by rw [decode_code, selOf_sampleOf]
    exact Entering.registersLegal (code.symm ▸ start) (effect_of_step next runs)
  · obtain rfl := Host.Outcome.next.inj (resets.symm.trans runs)
    exact registersLegal_hardReset _

/-- Settles O36: a hardware reset writes nothing to a state that is at its reset values. -/
theorem resetRegistersAreLegal : Obligations.ResetRegistersAreLegal :=
  fun legacy inputs => registersLegal_hardReset { State.reset with legacyFallthrough := legacy, stimulus := inputs }

end Sys2Proof.Proofs
end

section
/-! TIER and the services: 40_dispatch.md R111 and R112, 70_reset_and_hazards.md R226. -/
namespace Sys2Proof.Proofs

open Sys2Proof.Machine

/-- `ClockCoherent` from the first transition on, without the sentinel's case. -/
structure ClockTracked (s : State) : Prop where
  latest : (clockSets s.log).getLast? = some s.tier
  agree : delaysDeclare none s.log = true

/-- After events that end in a `ClockSet` and what follows it at that tier. -/
theorem clockTracked_of_clockSet {t : State} {es fs : List Event} (log : t.log = es ++ .clockSet t.tier :: fs)
    (before : delaysDeclare none es = true) (no_more : clockSets fs = [])
    (after : delaysDeclare (some t.tier) fs = true) : ClockTracked t := by
  refine ⟨?_, ?_⟩
  · simp [log, clockSets, no_more]
  · simp [log, delaysDeclare_append, delaysDeclare, before, after]

/-- After more events at the tier that stands. -/
theorem ClockTracked.extend {s t : State} {fs : List Event} (tracked : ClockTracked s) (log : t.log = s.log ++ fs)
    (tier : t.tier = s.tier) (no_more : clockSets fs = []) (after : delaysDeclare (some s.tier) fs = true) :
    ClockTracked t := by
  refine ⟨?_, ?_⟩
  · simp [log, no_more, tracked.latest, tier]
  · simp [log, delaysDeclare_append, tracked.latest, tracked.agree, after]

/-- Filing the events moves them within the log. -/
theorem beginIteration_log (s : State) : s.beginIteration.log = s.log := by
  simp [State.log]

theorem clockTracked_detect {s : State} (coherent : ClockCoherent s) (sel : Code) :
    ClockTracked (s.beginIteration.detect sel) := by
  rcases detect_cases s.beginIteration sel with ⟨-, acts⟩ | ⟨held, idle⟩
  · rw [acts]
    refine clockTracked_of_clockSet (es := s.log ++ [.outWrite 0#6]) (fs := []) ?_ ?_ rfl rfl
    · simp [State.log, State.transition_events]
    · simp [delaysDeclare_append, coherent.delays_agree, delaysDeclare]
  · have running : s.psel ≠ .sentinel := fun atStart => psel_ne_code_of_sentinel atStart sel held
    rw [idle]
    refine ⟨?_, ?_⟩
    · rw [beginIteration_log, ← oscillator_of_code running]
      exact coherent.tier_latest running
    · rw [beginIteration_log]
      exact coherent.delays_agree

/-- A delay declares the current tier (40_dispatch.md R112). -/
theorem delaysDeclare_waitAfter (i : Instr) (u : Tier) : delaysDeclare (some u) (waitAfter i u) = true := by
  cases i <;> simp [waitAfter, delaysDeclare]

theorem Effect.clockTracked {i : Instr} {s t : State} (e : Effect i s t) (tracked : ClockTracked s) :
    ClockTracked t := by
  cases e with
  | idle => exact tracked
  | clock =>
    refine clockTracked_of_clockSet (es := s.log)
      (fs := [.outWrite (toggleBit0 s.out), .delay 500#13 s.cks.tier]) ?_ tracked.agree rfl ?_
    · simp [State.log, State.stepClock_events]
    · simp [delaysDeclare]
  | write =>
    refine tracked.extend (fs := .outWrite (outAfter i s.out s.cnt) :: waitAfter i s.tier)
      (List.append_assoc _ _ _).symm rfl (clockSets_waitAfter i s.tier) ?_
    exact delaysDeclare_waitAfter i s.tier

/-- A reset emits nothing and unsets what is known of the oscillator (log entry 11). -/
theorem clockCoherent_hardReset {s : State} (agree : delaysDeclare none s.log = true) : ClockCoherent s.hardReset :=
  ⟨fun running => absurd rfl running, agree⟩

/-- Settles O37: after the detector TIER is the latest `ClockSet`, and each effect keeps that, a `Delay` declaring
TIER. -/
theorem clockCoherenceIsKept : Obligations.ClockCoherenceIsKept := by
  intro s t coherent runs
  rcases step_by_input s with ⟨sel, sec, next, -⟩ | ⟨-, resets⟩
  · have e := effect_of_step next runs
    have tracked := e.clockTracked (clockTracked_detect coherent sel)
    refine ⟨fun running => ?_, tracked.agree⟩
    rw [oscillator_of_code running, tracked.latest]
  · obtain rfl := Host.Outcome.next.inj (resets.symm.trans runs)
    refine clockCoherent_hardReset ?_
    rw [beginIteration_log]
    exact coherent.delays_agree

/-- Settles O38: a hardware reset writes nothing to a state that is at its reset values, and nothing was emitted. -/
theorem resetIsClockCoherent : Obligations.ResetIsClockCoherent :=
  fun legacy inputs =>
    clockCoherent_hardReset (s := { State.reset with legacyFallthrough := legacy, stimulus := inputs }) rfl

end Sys2Proof.Proofs
end

section
/-! What an iteration does not depend on: 30_encoding.md R83, 70_reset_and_hazards.md R229 and R237. -/
namespace Sys2Proof.Proofs

open Sys2Proof.Machine

/-- Settles O43: samples that agree in the bits read decode alike, and nothing else of `sec` enters the step. -/
theorem ignoredBitsHaveNoEffect : Obligations.IgnoredBitsHaveNoEffect := by
  refine ⟨fun w => ?_, fun s sel sec sec' rest same => ?_⟩
  · rw [secMask_eq, decode_code]
  · have sameDecode : decode (sampleOf sel sec) = decode (sampleOf sel sec') := by
      simp [decode_eq_decode_iff, same]
    rw [step_of_sample rfl, step_of_sample rfl, sameDecode]
    rfl

/-- A state without what the environment and the record hold. -/
def registers (s : State) : State := { s with history := [], stimulus := [], draws := 0 }

/-- Experiments read and write the registers, the parameter and the iteration's events alone. -/
theorem exec_registers {i : Instr} {s t : State} (runs : exec i s = .next t) :
    exec i (registers s) = .next (registers t) := by
  have noop : (registers s).noopOrFallthrough = registers s.noopOrFallthrough := by
    rcases noopOrFallthrough_cases s with ⟨byDefault, stays⟩ | ⟨legacy, steps⟩
    · rw [stays]
      exact noopOrFallthrough_of_default byDefault
    · rw [steps]
      exact noopOrFallthrough_of_legacy legacy
  cases i
  case nop0 | nop1 | nop2 =>
    obtain rfl := Host.Outcome.next.inj runs
    exact congrArg Host.Outcome.next noop
  all_goals
    obtain rfl := Host.Outcome.next.inj runs
    rfl

/-- A transition overwrites every register. -/
theorem registers_transition {s s' : State} {sel : Code} (sameParameter : s.legacyFallthrough = s'.legacyFallthrough)
    (sameEvents : s.events = s'.events) : registers (s.transition sel) = registers (s'.transition sel) := by
  simp only [registers, transition_eq, sameParameter, sameEvents]

/-- Settles O44: the two transitions leave the same registers and events, and the experiment answers on them alone. -/
theorem transitionForgetsThePast : Obligations.TransitionForgetsThePast := by
  intro s s' t t' sel sec next next' changed changed' sameParameter runs runs'
  rw [step_of_nextInput next, detect_of_psel_ne (s := s.beginIteration) changed] at runs
  rw [step_of_nextInput next', detect_of_psel_ne (s := s'.beginIteration) changed'] at runs'
  have start : registers (s.beginIteration.transition sel) = registers (s'.beginIteration.transition sel) :=
    registers_transition sameParameter rfl
  have result : registers t = registers t' :=
    Host.Outcome.next.inj ((exec_registers runs).symm.trans (start ▸ exec_registers runs'))
  simp only [registers, State.mk.injEq] at result
  obtain ⟨out, cnt, cks, psel, tier, events, -⟩ := result
  exact ⟨out, cnt, cks, psel, tier, events⟩

end Sys2Proof.Proofs
end

section
/-! The first result after a selection: 40_dispatch.md R108. -/
namespace Sys2Proof.Proofs

open Sys2Proof.Machine

/-- An experiment that writes shows its rule on zeroed OUT and CNT. -/
theorem step_of_selection_out {s : State} {c : Code} {sec : Sec} {rest : List Input} {i : Instr}
    (changed : s.psel ≠ .code c) (next : s.stimulus = .sample c sec :: rest) (writes : Writes c)
    (decodes : decode (sampleOf c sec) = i) {v : Led} (value : outAfter i 0#6 0#4 = v) :
    ∃ t, step s = .next t ∧ t.out = v := by
  have writes_i : Writes i.code := by
    rwa [← decodes, decode_code, selOf_sampleOf]
  rw [step_of_selection changed next, decodes, exec_eq_written writes_i]
  exact ⟨_, rfl, value⟩

/-- The same for an experiment that its code alone names. -/
theorem step_of_plain_selection_out {s : State} {i : Instr} {sec : Sec} {rest : List Input} {v : Led}
    (noOperand : i.secMask = 0#4) (writes : Writes i.code) (value : outAfter i 0#6 0#4 = v)
    (changed : s.psel ≠ .code i.code) (next : s.stimulus = .sample i.code sec :: rest) :
    ∃ t, step s = .next t ∧ t.out = v :=
  step_of_selection_out changed next writes (decode_sampleOf_code noOperand sec) value

theorem step_of_selection_toNat {s : State} {c : Code} {sec : Sec} {rest : List Input} {i : Instr} {n : Nat}
    (changed : s.psel ≠ .code c) (next : s.stimulus = .sample c sec :: rest) (writes : Writes c)
    (decodes : decode (sampleOf c sec) = i) (value : (outAfter i 0#6 0#4).toNat = n) :
    ∃ t, step s = .next t ∧ t.out.toNat = n := by
  obtain ⟨t, runs, out⟩ := step_of_selection_out changed next writes decodes rfl
  exact ⟨t, runs, (congrArg BitVec.toNat out).trans value⟩

/-! ### The gates and the latch, on `sec` as a number -/

theorem and_of_sec_toNat (sec : Sec) :
    ((high2 sec &&& low2 sec).setWidth 6).toNat = (sec.toNat / 4 &&& sec.toNat % 4) := by
  revert sec; decide

theorem or_of_sec_toNat (sec : Sec) :
    ((high2 sec ||| low2 sec).setWidth 6).toNat = (sec.toNat / 4 ||| sec.toNat % 4) := by
  revert sec; decide

theorem xor_of_sec_toNat (sec : Sec) :
    ((high2 sec ^^^ low2 sec).setWidth 6).toNat = (sec.toNat / 4 ^^^ sec.toNat % 4) := by
  revert sec; decide

theorem walkLight_zero : walkLight 0#6 = 1#6 := by decide

theorem toggleBit0_zero : toggleBit0 0#6 = 1#6 := by decide

/-- A latch that was zeroed shows S. -/
theorem latchNext_of_sec_toNat (sec : Sec) :
    (latchNext (resetInput sec) (setInput sec) 0#6).toNat = sec.toNat % 2 := by
  revert sec; decide

/-- STEPCLK's phase 3 on zeroed state lights bit 0. -/
theorem step_of_stepclk_selection_out {s : State} {sec : Sec} {rest : List Input} (changed : s.psel ≠ .code 4#4)
    (next : s.stimulus = .sample 4#4 sec :: rest) : ∃ t, step s = .next t ∧ t.out = 1#6 := by
  have decodes : decode (sampleOf 4#4 sec) = .stepclk := decode_sampleOf_code (i := .stepclk) rfl sec
  rw [step_of_selection changed next, decodes]
  exact ⟨_, exec_stepclk _, toggleBit0_zero⟩

theorem step_of_nop5_selection_out {s : State} {sec : Sec} {rest : List Input} (changed : s.psel ≠ .code 5#4)
    (next : s.stimulus = .sample 5#4 sec :: rest) : ∃ t, step s = .next t ∧ t.out = 0#6 := by
  have decodes : decode (sampleOf 5#4 sec) = .nop5 := decode_sampleOf_code (i := .nop5) rfl sec
  rw [step_of_selection changed next, decodes]
  exact ⟨_, exec_nop5 _, rfl⟩

/-- NOP0, NOP1 and NOP2 stay dark, or light bit 0 as STEPCLK does (40_dispatch.md R114, decision D16). -/
theorem step_of_noop_selection_out {s : State} {c : Code} {sec : Sec} {rest : List Input} {i : Instr} {u : Tier}
    (isNoop : (i, c, u) ∈ [(.nop0, 0#4, .low), (.nop1, 1#4, .mid), (.nop2, 2#4, .high)])
    (changed : s.psel ≠ .code c) (next : s.stimulus = .sample c sec :: rest) :
    ∃ t, step s = .next t ∧ t.out = if s.legacyFallthrough then 1#6 else 0#6 := by
  obtain ⟨decodes, -, runs⟩ := fallthroughNoop_facts isNoop
  rw [step_of_selection changed next, decodes, runs]
  refine ⟨_, rfl, ?_⟩
  cases legacy : s.legacyFallthrough with
  | false => rw [noopOrFallthrough_of_default rfl, if_neg Bool.false_ne_true]
  | true =>
    rw [noopOrFallthrough_of_legacy rfl, if_pos rfl]
    exact toggleBit0_zero

/-- Settles O45: `step_of_selection_out` for the codes that write, with the rule's value on zeroed state, and a
lemma each for STEPCLK and the no-ops. -/
theorem firstResultAfterSelection : Obligations.FirstResultAfterSelection := by
  refine ⟨fun c v row s sec rest changed next => ?_, fun c row s sec rest changed next => ?_,
    fun c f row s sec rest changed next => ?_⟩
  · simp only [List.mem_cons, List.not_mem_nil, or_false, Prod.mk.injEq] at row
    rcases row with ⟨rfl, rfl⟩ | ⟨rfl, rfl⟩ | ⟨rfl, rfl⟩ | ⟨rfl, rfl⟩ | ⟨rfl, rfl⟩ | ⟨rfl, rfl⟩ | ⟨rfl, rfl⟩ |
      ⟨rfl, rfl⟩
    · exact step_of_plain_selection_out (i := .upcnt) rfl (by decide) (by decide) changed next
    · exact step_of_plain_selection_out (i := .dncnt) rfl (by decide) (by decide) changed next
    · exact step_of_plain_selection_out (i := .gray) rfl (by decide) (by decide) changed next
    · exact step_of_plain_selection_out (i := .graybin) rfl (by decide) (by decide) changed next
    · exact step_of_plain_selection_out (i := .blink) rfl (by decide) (by decide) changed next
    · exact step_of_stepclk_selection_out changed next
    · exact step_of_selection_out changed next (by decide) (decode_sampleOf_runlight sec) walkLight_zero
    · exact step_of_nop5_selection_out changed next
  · simp only [List.mem_cons, List.not_mem_nil, or_false] at row
    rcases row with rfl | rfl | rfl
    · exact step_of_noop_selection_out (i := .nop0) (u := .low) (by decide) changed next
    · exact step_of_noop_selection_out (i := .nop1) (u := .mid) (by decide) changed next
    · exact step_of_noop_selection_out (i := .nop2) (u := .high) (by decide) changed next
  · simp only [List.mem_cons, List.not_mem_nil, or_false, Prod.mk.injEq] at row
    rcases row with ⟨rfl, rfl⟩ | ⟨rfl, rfl⟩ | ⟨rfl, rfl⟩ | ⟨rfl, rfl⟩ | ⟨rfl, rfl⟩
    · exact step_of_selection_toNat changed next (by decide) (decode_sampleOf_and sec) (and_of_sec_toNat sec)
    · exact step_of_selection_toNat changed next (by decide) (decode_sampleOf_or sec) (or_of_sec_toNat sec)
    · exact step_of_selection_toNat changed next (by decide) (decode_sampleOf_not sec) (not_setWidth_six_toNat sec)
    · exact step_of_selection_toNat changed next (by decide) (decode_sampleOf_xor sec) (xor_of_sec_toNat sec)
    · exact step_of_selection_toNat changed next (by decide) (decode_sampleOf_srlatch sec) (latchNext_of_sec_toNat sec)

end Sys2Proof.Proofs
end

section
/-! Holding a selection: one induction over the samples, and an invariant for each experiment. -/
namespace Sys2Proof.Proofs

open Sys2Proof.Machine

/-! ### The induction -/

/-- `I done s` says what the samples `done`, all of code `c`, made of `s`. It does not look at what an iteration
files, and the experiment of one more sample keeps it. -/
structure HeldInvariant (c : Code) (I : List Sec → State → Prop) : Prop where
  filed : ∀ {done : List Sec} {s : State}, I done s → I done s.beginIteration
  kept : ∀ {done : List Sec} {x : Sec} {s t : State},
    I done s → exec (decode (sampleOf c x)) s = .next t → I (done ++ [x]) t

theorem run_succ {s t : State} (runs : step s = .next t) (k : Nat) : core.run (k + 1) s = core.run k t := by
  have runs_core : core.step s = .next t := runs
  simp only [Host.Core.run, runs_core]

section
variable {c : Code} {I : List Sec → State → Prop}

/-- One iteration, from the state that the detector leaves. -/
theorem HeldInvariant.step (inv : HeldInvariant c I) {done : List Sec} {x : Sec} {ins : List Input} {s : State}
    (next : s.stimulus = .sample c x :: ins) (start : I done (s.beginIteration.detect c)) :
    ∃ t, Machine.step s = .next t ∧ t.psel = .code c ∧ t.stimulus = ins ∧ I (done ++ [x]) t := by
  obtain ⟨t, runs, e⟩ := exec_effect (decode (sampleOf c x)) (s.beginIteration.detect c)
  refine ⟨t, (step_of_sample next).trans runs, ?_, ?_, inv.kept start runs⟩
  · rw [e.psel, detect_psel]
  · rw [e.stimulus, detect_stimulus, State.beginIteration_stimulus, next, List.tail_cons]

/-- While the code is held the detector does nothing. -/
theorem HeldInvariant.run_held (inv : HeldInvariant c I) {rest : List Input} (xs : List Sec) {done : List Sec}
    {s : State} (held : s.psel = .code c) (next : s.stimulus = xs.map (Input.sample c) ++ rest) (start : I done s) :
    ∃ t, core.run xs.length s = .next t ∧ t.stimulus = rest ∧ I (done ++ xs) t := by
  induction xs generalizing done s with
  | nil => exact ⟨s, rfl, next, (List.append_nil done).symm ▸ start⟩
  | cons x xs ih =>
    have start_detected : I done (s.beginIteration.detect c) := by
      rw [detect_of_psel_eq (s := s.beginIteration) held]
      exact inv.filed start
    obtain ⟨t, runs, held_t, next_t, kept⟩ := inv.step next start_detected
    obtain ⟨u, runs_u, next_u, kept_u⟩ := ih held_t next_t kept
    exact ⟨u, (run_succ runs _).trans runs_u, next_u, List.append_cons done x xs ▸ kept_u⟩

/-- The first sample selects the code, the others hold it. -/
theorem HeldInvariant.run_of_selection (inv : HeldInvariant c I) {rest : List Input} {secs : List Sec} {s : State}
    (nonempty : secs ≠ []) (changed : s.psel ≠ .code c)
    (next : s.stimulus = secs.map (Input.sample c) ++ rest) (start : I [] (s.beginIteration.transition c)) :
    ∃ t, core.run secs.length s = .next t ∧ t.stimulus = rest ∧ I secs t := by
  cases secs with
  | nil => exact absurd rfl nonempty
  | cons x xs =>
    rw [← detect_of_psel_ne (s := s.beginIteration) changed] at start
    obtain ⟨t, runs, held, next_t, kept⟩ := inv.step next start
    obtain ⟨u, runs_u, next_u, kept_u⟩ := inv.run_held xs held next_t kept
    exact ⟨u, (run_succ runs _).trans runs_u, next_u, kept_u⟩

/-- For an experiment that writes, one more sample leads to `written`. -/
theorem heldInvariant_of_written {i : Sec → Instr} (decodes : ∀ x, decode (sampleOf c x) = i x) (writes : Writes c)
    (filed : ∀ done s, I done s → I done s.beginIteration)
    (kept : ∀ done x s, I done s → I (done ++ [x]) (written (i x) s)) : HeldInvariant c I := by
  refine ⟨fun {done s} => filed done s, fun {done x s t} held runs => ?_⟩
  have writes_x : Writes (i x).code := by
    rwa [← decodes, decode_code, selOf_sampleOf]
  rw [decodes, exec_eq_written writes_x] at runs
  obtain rfl := Host.Outcome.next.inj runs
  exact kept done x s held

end

/-! ### The binary counters (42_counters.md R130 b, R131 b) -/

/-- OUT counts the samples up. -/
def UpHeld (done : List Sec) (s : State) : Prop := s.out.toNat = done.length % 16

theorem heldInvariant_upcnt : HeldInvariant 6#4 UpHeld := by
  refine heldInvariant_of_written (i := fun _ => .upcnt) (decode_sampleOf_code (i := .upcnt) rfl) (by decide)
    (fun _ _ => id) fun done x s held => ?_
  have counted : (written .upcnt s).out.toNat = (s.out.toNat + 1) % 16 := upMod16_toNat s.out
  rw [UpHeld, counted, held, List.length_append, List.length_singleton, Nat.mod_add_mod]

/-- OUT counts the samples down. -/
def DownHeld (done : List Sec) (s : State) : Prop := (s.out.toNat : Int) = (-(done.length : Int)) % 16

theorem heldInvariant_dncnt : HeldInvariant 7#4 DownHeld := by
  refine heldInvariant_of_written (i := fun _ => .dncnt) (decode_sampleOf_code (i := .dncnt) rfl) (by decide)
    (fun _ _ => id) fun done x s held => ?_
  have counted : ((written .dncnt s).out.toNat : Int) = ((s.out.toNat : Int) - 1) % 16 :=
    downMod16_toNat_eq_sub s.out
  rw [DownHeld, counted, held, List.length_append, List.length_singleton]
  omega

/-- Settles O46: the two counts are kept, and the selection's zero starts them. -/
theorem heldBinaryCountersCount : Obligations.HeldBinaryCountersCount :=
  fun _ _ _ nonempty =>
    ⟨fun changed next => heldInvariant_upcnt.run_of_selection nonempty changed next rfl,
      fun changed next => heldInvariant_dncnt.run_of_selection nonempty changed next rfl⟩

/-! ### The Gray counters (42_counters.md R132, R133) -/

/-- CNT counts the samples, and OUT is its table entry: at the selection too, the entry of 0 being 0. -/
def GrayHeld (done : List Sec) (s : State) : Prop :=
  s.cnt.toNat = done.length % 16 ∧ s.out.toNat = (romRead grayTab s.cnt).toNat

theorem heldInvariant_gray : HeldInvariant 8#4 GrayHeld := by
  refine heldInvariant_of_written (i := fun _ => .gray) (decode_sampleOf_code (i := .gray) rfl) (by decide)
    (fun _ _ => id) fun done x s ⟨count, _⟩ => ⟨?_, ?_⟩
  · have advanced : (written .gray s).cnt.toNat = (s.cnt.toNat + 1) % 16 :=
      cntNext_toNat s.cnt (by decide) (by decide)
    rw [advanced, count, List.length_append, List.length_singleton, Nat.mod_add_mod]
  · exact BitVec.toNat_setWidth_of_le (by decide)

/-- The same modulo 8, with the count beside its table entry. -/
def GraybinHeld (done : List Sec) (s : State) : Prop :=
  s.cnt.toNat = done.length % 8 ∧ s.out.toNat = (romRead grayTab s.cnt).toNat * 8 + s.cnt.toNat

theorem heldInvariant_graybin : HeldInvariant 9#4 GraybinHeld := by
  refine heldInvariant_of_written (i := fun _ => .graybin) (decode_sampleOf_code (i := .graybin) rfl) (by decide)
    (fun _ _ => id) fun done x s ⟨count, _⟩ => ?_
  have advanced : (written .graybin s).cnt.toNat = (s.cnt.toNat + 1) % 8 :=
    cntNext_toNat s.cnt (by decide) (by decide)
  have count3 : (written .graybin s).cnt.toNat < 8 := advanced ▸ Nat.mod_lt _ (by decide)
  refine ⟨?_, grayBeside_toNat_of_lt (grayTab_read_lt_eight count3) count3⟩
  rw [advanced, count, List.length_append, List.length_singleton, Nat.mod_add_mod]

/-- Settles O47: CNT is the number of samples modulo 16 or 8, and OUT is read at CNT. -/
theorem heldGrayCountersWalkTheTable : Obligations.HeldGrayCountersWalkTheTable := by
  refine fun s secs rest nonempty => ⟨fun changed next => ?_, fun changed next => ?_⟩
  · obtain ⟨t, runs, left, count, shown⟩ :=
      heldInvariant_gray.run_of_selection nonempty changed next ⟨rfl, rfl⟩
    refine ⟨t, runs, left, count, ?_⟩
    rw [shown, ← count, BitVec.ofNat_toNat, BitVec.setWidth_eq]
  · obtain ⟨t, runs, left, count, shown⟩ :=
      heldInvariant_graybin.run_of_selection nonempty changed next ⟨rfl, rfl⟩
    refine ⟨t, runs, left, count, ?_⟩
    rw [shown, ← count, BitVec.ofNat_toNat, BitVec.setWidth_eq]

/-! ### The toggles (41_clock_blink.md R120 b, R121 a) -/

/-- Bit 0 is the parity of the samples, and the other bits stay 0. -/
def ToggleHeld (done : List Sec) (s : State) : Prop := s.out.toNat = done.length % 2

theorem ToggleHeld.toggle {done : List Sec} {s : State} (held : ToggleHeld done s) (x : Sec) :
    (toggleBit0 s.out).toNat = (done ++ [x]).length % 2 := by
  rw [ToggleHeld] at held
  rw [toggleBit0_toNat_of_le_one (by omega), held, List.length_append, List.length_singleton]
  omega

theorem heldInvariant_blink : HeldInvariant 3#4 ToggleHeld :=
  heldInvariant_of_written (i := fun _ => .blink) (decode_sampleOf_code (i := .blink) rfl) (by decide)
    (fun _ _ => id) fun _ x _ held => held.toggle x

/-- CKS counts the samples modulo 3, and TIER is one count behind it: at the selection it is HIGH, the tier of the
value that precedes 0. -/
def StepclkHeld (done : List Sec) (s : State) : Prop :=
  ToggleHeld done s ∧ s.cks.bits.toNat = done.length % 3 ∧ s.tier.bits.toNat = (done.length + 2) % 3

theorem next_bits_toNat (k : ClockState) : k.next.bits.toNat = (k.bits.toNat + 1) % 3 := by
  cases k <;> rfl

theorem tier_bits (k : ClockState) : k.tier.bits = k.bits := by
  cases k <;> rfl

theorem heldInvariant_stepclk : HeldInvariant 4#4 StepclkHeld := by
  refine ⟨id, fun {done x s t} held runs => ?_⟩
  obtain ⟨toggled, count, -⟩ := held
  have decodes : decode (sampleOf 4#4 x) = .stepclk := decode_sampleOf_code (i := .stepclk) rfl x
  rw [decodes] at runs
  obtain rfl := Host.Outcome.next.inj runs
  refine ⟨toggled.toggle x, ?_, ?_⟩
  · rw [State.stepClock_cks, next_bits_toNat, count, List.length_append, List.length_singleton, Nat.mod_add_mod]
  · rw [State.stepClock_tier, tier_bits, count, List.length_append, List.length_singleton]
    omega

/-- Settles O48: the parity and the two counts are kept, and the tier's is read one sample back. -/
theorem heldTogglesAlternate : Obligations.HeldTogglesAlternate := by
  refine fun s secs rest nonempty => ⟨fun changed next => ?_, fun changed next => ?_⟩
  · exact heldInvariant_blink.run_of_selection nonempty changed next rfl
  · obtain ⟨t, runs, left, toggled, count, behind⟩ :=
      heldInvariant_stepclk.run_of_selection nonempty changed next ⟨rfl, rfl, rfl⟩
    have some_sample : 0 < secs.length := List.length_pos_iff.mpr nonempty
    refine ⟨t, runs, left, toggled, count, ?_⟩
    rw [behind]
    omega

/-! ### The running light (45_running_light.md R170) -/

/-- After `done` the light is at its place of 6, or still dark; TIER is HIGH; and past the delays `before` the log
asks for the table entry of each sample. -/
def LightHeld (before : List (Millis × Tier)) (done : List Sec) (s : State) : Prop :=
  ((done = [] ∧ s.out = 0#6) ∨ s.out.toNat = 2 ^ ((done.length + 5) % 6)) ∧ s.tier = .high ∧
  delays s.log = before ++ done.map fun x => (romRead delayTab x, Tier.high)

/-- A single light moves one place, the last to the first. -/
theorem walkLight_two_pow {v : Led} {k : Nat} (place : k < 6) (lit : v.toNat = 2 ^ k) :
    (walkLight v).toNat = 2 ^ ((k + 1) % 6) := by
  rw [walkLight_toNat, lit]
  interval_cases k <;> rfl

theorem delays_log_written_runlight (k : BitVec 4) (s : State) :
    delays (written (.runlight k) s).log = delays s.log ++ [(romRead delayTab k, s.tier)] := by
  simp [State.log, written, waitAfter, delays]

theorem heldInvariant_runlight (before : List (Millis × Tier)) : HeldInvariant 15#4 (LightHeld before) := by
  refine heldInvariant_of_written (i := .runlight) decode_sampleOf_runlight (by decide)
    (fun done s ⟨light, high, asked⟩ => ⟨light, high, beginIteration_log s ▸ asked⟩)
    fun done x s ⟨light, high, asked⟩ => ⟨.inr ?_, high, ?_⟩
  · have walked : (written (.runlight x) s).out = walkLight s.out := rfl
    rw [walked]
    rcases light with ⟨rfl, dark⟩ | lit
    · rw [dark, walkLight_zero, List.nil_append, List.length_singleton]
      decide
    · rw [walkLight_two_pow (Nat.mod_lt _ (by decide)) lit, List.length_append, List.length_singleton]
      congr 1
      omega
  · rw [delays_log_written_runlight, asked, high, List.map_append, List.append_assoc]
    rfl

/-- A transition asks for no delay. -/
theorem delays_log_transition (s : State) (sel : Code) :
    delays (s.beginIteration.transition sel).log = delays s.log := by
  simp [State.log, State.transition_events, delays]

/-- Settles O49: the light and the delays are kept, and a selection at HIGH starts them from dark and from the delays
asked for before it. -/
theorem heldRunningLightWalks : Obligations.HeldRunningLightWalks := by
  intro s secs rest nonempty changed next
  have start : LightHeld (delays s.log) [] (s.beginIteration.transition 15#4) :=
    ⟨.inl ⟨rfl, rfl⟩, (State.transition_tier _ 15#4).trans (tierOf_of_two_le (by decide)),
      (delays_log_transition s _).trans (List.append_nil _).symm⟩
  obtain ⟨t, runs, left, light, -, asked⟩ :=
    (heldInvariant_runlight (delays s.log)).run_of_selection nonempty changed next start
  have some_sample : 0 < secs.length := List.length_pos_iff.mpr nonempty
  have one_back : (secs.length + 5) % 6 = (secs.length - 1) % 6 := by omega
  refine ⟨t, runs, left, ?_, asked⟩
  rcases light with ⟨empty, -⟩ | lit
  · exact absurd empty nonempty
  · rw [lit, one_back]

end Sys2Proof.Proofs
end
